-- ==== Sys2Proof/Word.lean ====
section
/-! DEFINITION. The word types of TaC (spec R4, R6): a word is 16 bits, a byte is 8 bits. -/

namespace Sys2Proof

/-- A 16-bit word: a register's contents, a memory or I/O address while it is computed, an instruction word (R4, R6). -/
abbrev Word := BitVec 16

/-- An 8-bit byte, the memory space's addressable unit (R4, R31). -/
abbrev Byte := BitVec 8

end Sys2Proof
end

