-- ==== Sys2Proof/Syntax/Fields.lean ====
section
/-! DEFINITION. The operand types of TaC's instructions (spec R83, R85, R86, R88) and the structured view `Form` of an
instruction: its mnemonic's group together with its operand. -/

namespace Sys2Proof

/-- The sixteen register numbers of the fields Rd, Rs and Rx (R23, R86). `fp` is G12 (number 12), `sp` number 13 (SSP or
USP by FLAG.P), `usp` number 14, `flag` number 15. -/
inductive Reg where
  | g0 | g1 | g2 | g3 | g4 | g5 | g6 | g7 | g8 | g9 | g10 | g11 | fp | sp | usp | flag
  deriving DecidableEq, Repr

/-- The eight operand forms of LD and of the fourteen flag-changing instructions (R83, R111). -/
inductive Operand where
  /-- Direct (R113): the second word is the operand's address. -/
  | drct (dsp : Word)
  /-- Indexed (R114): the address is the second word plus a register. -/
  | index (dsp : Word) (rx : Reg)
  /-- Immediate (R115): the second word itself. -/
  | imm (v : Word)
  /-- FP relative (R116): the address is FP plus the even displacement Dsp4. -/
  | fpRlt (dsp4 : Int)
  /-- Register (R117). -/
  | reg (rs : Reg)
  /-- 4-bit signed immediate (R118). -/
  | imm4 (v : Int)
  /-- Register indirect (R119): the address is a register's contents. -/
  | indr (rx : Reg)
  /-- Byte register indirect (R120): the byte at the address in a register. -/
  | bIndr (rx : Reg)
  deriving DecidableEq, Repr

/-- The five operand forms of ST (R133): those that name a place in memory. -/
inductive Place where
  | drct (dsp : Word)
  | index (dsp : Word) (rx : Reg)
  | fpRlt (dsp4 : Int)
  | indr (rx : Reg)
  | bIndr (rx : Reg)
  deriving DecidableEq, Repr

/-- The two operand forms of the jumps and of CALL (R170, R189). -/
inductive Target where
  | drct (dsp : Word)
  | index (dsp : Word) (rx : Reg)
  deriving DecidableEq, Repr

/-- The two operand forms of IN and OUT (R195, R199). -/
inductive Port where
  | drct (dsp : Word)
  | indr (rx : Reg)
  deriving DecidableEq, Repr

/-- The ten arithmetic and logic instructions (R140). -/
inductive ArithOp where
  | add | sub | cmp | and | or | xor | adds | mul | div | mod
  deriving DecidableEq, Repr

/-- The four shift instructions (R160). -/
inductive ShiftOp where
  | shla | shll | shra | shrl
  deriving DecidableEq, Repr

/-- The fifteen jump conditions (R88, R172). -/
inductive Cond where
  | z | c | m | o | gt | ge | le | lt | nz | nc | nm | no | hi | ls | always
  deriving DecidableEq, Repr

/-- The structured view of an instruction: the group of its mnemonic with its operands (R123). `Instr.form` and
`Instr.ofForm` (Decode.lean) go between this view and the opcode table's rows. -/
inductive Form where
  | no
  | ld (rd : Reg) (o : Operand)
  | st (rd : Reg) (p : Place)
  | arith (op : ArithOp) (rd : Reg) (o : Operand)
  | shift (op : ShiftOp) (rd : Reg) (o : Operand)
  | jump (cond : Cond) (t : Target)
  | call (t : Target)
  | input (rd : Reg) (p : Port)
  | output (rd : Reg) (p : Port)
  | push (rd : Reg)
  | pop (rd : Reg)
  | ret
  | reti
  | svc
  | halt
  deriving DecidableEq, Repr

end Sys2Proof
end

