-- ==== Sys2Proof/Syntax.lean ====
section
/-! DEFINITION. The instructions of TaC: one constructor for each of the 168 rows of spec/opcode_table.json (one row per
mnemonic and addressing mode, R99), named mnemonic + mode. Fields are operands, not raw bits: a register is a `Reg`, Dsp4
and Imm4 are the integers the programmer writes (R85), Dsp and Imm are the 16-bit second word. -/

namespace Sys2Proof

/-- An instruction of TaC: one row of the opcode table with its operands. -/
inductive Instr where
  /-- NO (R130): first word 0000000000000000. -/
  | no
  /-- LD, mode Drct (R131, R113): first word 00001000dddd0000. -/
  | ldDrct (rd : Reg) (dsp : Word)
  /-- LD, mode Index (R131, R114): first word 00001001ddddxxxx. -/
  | ldIndex (rd : Reg) (dsp : Word) (rx : Reg)
  /-- LD, mode Imm (R131, R115): first word 00001010dddd0000. -/
  | ldImm (rd : Reg) (imm : Word)
  /-- LD, mode FP Rlt (R131, R116): first word 00001011ddddpppp. -/
  | ldFpRlt (rd : Reg) (dsp4 : Int)
  /-- LD, mode Reg (R131, R117): first word 00001100ddddssss. -/
  | ldReg (rd : Reg) (rs : Reg)
  /-- LD, mode Imm4 (R131, R118): first word 00001101ddddiiii. -/
  | ldImm4 (rd : Reg) (imm4 : Int)
  /-- LD, mode Indr (R131, R119): first word 00001110ddddxxxx. -/
  | ldIndr (rd : Reg) (rx : Reg)
  /-- LD, mode B Indr (R131, R120): first word 00001111ddddxxxx. -/
  | ldBIndr (rd : Reg) (rx : Reg)
  /-- ST, mode Drct (R133, R113): first word 00010000dddd0000. -/
  | stDrct (rd : Reg) (dsp : Word)
  /-- ST, mode Index (R133, R114): first word 00010001ddddxxxx. -/
  | stIndex (rd : Reg) (dsp : Word) (rx : Reg)
  /-- ST, mode FP Rlt (R133, R116): first word 00010011ddddpppp. -/
  | stFpRlt (rd : Reg) (dsp4 : Int)
  /-- ST, mode Indr (R133, R119): first word 00010110ddddxxxx. -/
  | stIndr (rd : Reg) (rx : Reg)
  /-- ST, mode B Indr (R133, R120): first word 00010111ddddxxxx. -/
  | stBIndr (rd : Reg) (rx : Reg)
  /-- ADD, mode Drct (R145, R113): first word 00011000dddd0000. -/
  | addDrct (rd : Reg) (dsp : Word)
  /-- ADD, mode Index (R145, R114): first word 00011001ddddxxxx. -/
  | addIndex (rd : Reg) (dsp : Word) (rx : Reg)
  /-- ADD, mode Imm (R145, R115): first word 00011010dddd0000. -/
  | addImm (rd : Reg) (imm : Word)
  /-- ADD, mode FP Rlt (R145, R116): first word 00011011ddddpppp. -/
  | addFpRlt (rd : Reg) (dsp4 : Int)
  /-- ADD, mode Reg (R145, R117): first word 00011100ddddssss. -/
  | addReg (rd : Reg) (rs : Reg)
  /-- ADD, mode Imm4 (R145, R118): first word 00011101ddddiiii. -/
  | addImm4 (rd : Reg) (imm4 : Int)
  /-- ADD, mode Indr (R145, R119): first word 00011110ddddxxxx. -/
  | addIndr (rd : Reg) (rx : Reg)
  /-- ADD, mode B Indr (R145, R120): first word 00011111ddddxxxx. -/
  | addBIndr (rd : Reg) (rx : Reg)
  /-- SUB, mode Drct (R146, R113): first word 00100000dddd0000. -/
  | subDrct (rd : Reg) (dsp : Word)
  /-- SUB, mode Index (R146, R114): first word 00100001ddddxxxx. -/
  | subIndex (rd : Reg) (dsp : Word) (rx : Reg)
  /-- SUB, mode Imm (R146, R115): first word 00100010dddd0000. -/
  | subImm (rd : Reg) (imm : Word)
  /-- SUB, mode FP Rlt (R146, R116): first word 00100011ddddpppp. -/
  | subFpRlt (rd : Reg) (dsp4 : Int)
  /-- SUB, mode Reg (R146, R117): first word 00100100ddddssss. -/
  | subReg (rd : Reg) (rs : Reg)
  /-- SUB, mode Imm4 (R146, R118): first word 00100101ddddiiii. -/
  | subImm4 (rd : Reg) (imm4 : Int)
  /-- SUB, mode Indr (R146, R119): first word 00100110ddddxxxx. -/
  | subIndr (rd : Reg) (rx : Reg)
  /-- SUB, mode B Indr (R146, R120): first word 00100111ddddxxxx. -/
  | subBIndr (rd : Reg) (rx : Reg)
  /-- CMP, mode Drct (R147, R113): first word 00101000dddd0000. -/
  | cmpDrct (rd : Reg) (dsp : Word)
  /-- CMP, mode Index (R147, R114): first word 00101001ddddxxxx. -/
  | cmpIndex (rd : Reg) (dsp : Word) (rx : Reg)
  /-- CMP, mode Imm (R147, R115): first word 00101010dddd0000. -/
  | cmpImm (rd : Reg) (imm : Word)
  /-- CMP, mode FP Rlt (R147, R116): first word 00101011ddddpppp. -/
  | cmpFpRlt (rd : Reg) (dsp4 : Int)
  /-- CMP, mode Reg (R147, R117): first word 00101100ddddssss. -/
  | cmpReg (rd : Reg) (rs : Reg)
  /-- CMP, mode Imm4 (R147, R118): first word 00101101ddddiiii. -/
  | cmpImm4 (rd : Reg) (imm4 : Int)
  /-- CMP, mode Indr (R147, R119): first word 00101110ddddxxxx. -/
  | cmpIndr (rd : Reg) (rx : Reg)
  /-- CMP, mode B Indr (R147, R120): first word 00101111ddddxxxx. -/
  | cmpBIndr (rd : Reg) (rx : Reg)
  /-- AND, mode Drct (R148, R113): first word 00110000dddd0000. -/
  | andDrct (rd : Reg) (dsp : Word)
  /-- AND, mode Index (R148, R114): first word 00110001ddddxxxx. -/
  | andIndex (rd : Reg) (dsp : Word) (rx : Reg)
  /-- AND, mode Imm (R148, R115): first word 00110010dddd0000. -/
  | andImm (rd : Reg) (imm : Word)
  /-- AND, mode FP Rlt (R148, R116): first word 00110011ddddpppp. -/
  | andFpRlt (rd : Reg) (dsp4 : Int)
  /-- AND, mode Reg (R148, R117): first word 00110100ddddssss. -/
  | andReg (rd : Reg) (rs : Reg)
  /-- AND, mode Imm4 (R148, R118): first word 00110101ddddiiii. -/
  | andImm4 (rd : Reg) (imm4 : Int)
  /-- AND, mode Indr (R148, R119): first word 00110110ddddxxxx. -/
  | andIndr (rd : Reg) (rx : Reg)
  /-- AND, mode B Indr (R148, R120): first word 00110111ddddxxxx. -/
  | andBIndr (rd : Reg) (rx : Reg)
  /-- OR, mode Drct (R149, R113): first word 00111000dddd0000. -/
  | orDrct (rd : Reg) (dsp : Word)
  /-- OR, mode Index (R149, R114): first word 00111001ddddxxxx. -/
  | orIndex (rd : Reg) (dsp : Word) (rx : Reg)
  /-- OR, mode Imm (R149, R115): first word 00111010dddd0000. -/
  | orImm (rd : Reg) (imm : Word)
  /-- OR, mode FP Rlt (R149, R116): first word 00111011ddddpppp. -/
  | orFpRlt (rd : Reg) (dsp4 : Int)
  /-- OR, mode Reg (R149, R117): first word 00111100ddddssss. -/
  | orReg (rd : Reg) (rs : Reg)
  /-- OR, mode Imm4 (R149, R118): first word 00111101ddddiiii. -/
  | orImm4 (rd : Reg) (imm4 : Int)
  /-- OR, mode Indr (R149, R119): first word 00111110ddddxxxx. -/
  | orIndr (rd : Reg) (rx : Reg)
  /-- OR, mode B Indr (R149, R120): first word 00111111ddddxxxx. -/
  | orBIndr (rd : Reg) (rx : Reg)
  /-- XOR, mode Drct (R150, R113): first word 01000000dddd0000. -/
  | xorDrct (rd : Reg) (dsp : Word)
  /-- XOR, mode Index (R150, R114): first word 01000001ddddxxxx. -/
  | xorIndex (rd : Reg) (dsp : Word) (rx : Reg)
  /-- XOR, mode Imm (R150, R115): first word 01000010dddd0000. -/
  | xorImm (rd : Reg) (imm : Word)
  /-- XOR, mode FP Rlt (R150, R116): first word 01000011ddddpppp. -/
  | xorFpRlt (rd : Reg) (dsp4 : Int)
  /-- XOR, mode Reg (R150, R117): first word 01000100ddddssss. -/
  | xorReg (rd : Reg) (rs : Reg)
  /-- XOR, mode Imm4 (R150, R118): first word 01000101ddddiiii. -/
  | xorImm4 (rd : Reg) (imm4 : Int)
  /-- XOR, mode Indr (R150, R119): first word 01000110ddddxxxx. -/
  | xorIndr (rd : Reg) (rx : Reg)
  /-- XOR, mode B Indr (R150, R120): first word 01000111ddddxxxx. -/
  | xorBIndr (rd : Reg) (rx : Reg)
  /-- ADDS, mode Drct (R151, R113): first word 01001000dddd0000. -/
  | addsDrct (rd : Reg) (dsp : Word)
  /-- ADDS, mode Index (R151, R114): first word 01001001ddddxxxx. -/
  | addsIndex (rd : Reg) (dsp : Word) (rx : Reg)
  /-- ADDS, mode Imm (R151, R115): first word 01001010dddd0000. -/
  | addsImm (rd : Reg) (imm : Word)
  /-- ADDS, mode FP Rlt (R151, R116): first word 01001011ddddpppp. -/
  | addsFpRlt (rd : Reg) (dsp4 : Int)
  /-- ADDS, mode Reg (R151, R117): first word 01001100ddddssss. -/
  | addsReg (rd : Reg) (rs : Reg)
  /-- ADDS, mode Imm4 (R151, R118): first word 01001101ddddiiii. -/
  | addsImm4 (rd : Reg) (imm4 : Int)
  /-- ADDS, mode Indr (R151, R119): first word 01001110ddddxxxx. -/
  | addsIndr (rd : Reg) (rx : Reg)
  /-- ADDS, mode B Indr (R151, R120): first word 01001111ddddxxxx. -/
  | addsBIndr (rd : Reg) (rx : Reg)
  /-- MUL, mode Drct (R152, R113): first word 01010000dddd0000. -/
  | mulDrct (rd : Reg) (dsp : Word)
  /-- MUL, mode Index (R152, R114): first word 01010001ddddxxxx. -/
  | mulIndex (rd : Reg) (dsp : Word) (rx : Reg)
  /-- MUL, mode Imm (R152, R115): first word 01010010dddd0000. -/
  | mulImm (rd : Reg) (imm : Word)
  /-- MUL, mode FP Rlt (R152, R116): first word 01010011ddddpppp. -/
  | mulFpRlt (rd : Reg) (dsp4 : Int)
  /-- MUL, mode Reg (R152, R117): first word 01010100ddddssss. -/
  | mulReg (rd : Reg) (rs : Reg)
  /-- MUL, mode Imm4 (R152, R118): first word 01010101ddddiiii. -/
  | mulImm4 (rd : Reg) (imm4 : Int)
  /-- MUL, mode Indr (R152, R119): first word 01010110ddddxxxx. -/
  | mulIndr (rd : Reg) (rx : Reg)
  /-- MUL, mode B Indr (R152, R120): first word 01010111ddddxxxx. -/
  | mulBIndr (rd : Reg) (rx : Reg)
  /-- DIV, mode Drct (R154, R113): first word 01011000dddd0000. -/
  | divDrct (rd : Reg) (dsp : Word)
  /-- DIV, mode Index (R154, R114): first word 01011001ddddxxxx. -/
  | divIndex (rd : Reg) (dsp : Word) (rx : Reg)
  /-- DIV, mode Imm (R154, R115): first word 01011010dddd0000. -/
  | divImm (rd : Reg) (imm : Word)
  /-- DIV, mode FP Rlt (R154, R116): first word 01011011ddddpppp. -/
  | divFpRlt (rd : Reg) (dsp4 : Int)
  /-- DIV, mode Reg (R154, R117): first word 01011100ddddssss. -/
  | divReg (rd : Reg) (rs : Reg)
  /-- DIV, mode Imm4 (R154, R118): first word 01011101ddddiiii. -/
  | divImm4 (rd : Reg) (imm4 : Int)
  /-- DIV, mode Indr (R154, R119): first word 01011110ddddxxxx. -/
  | divIndr (rd : Reg) (rx : Reg)
  /-- DIV, mode B Indr (R154, R120): first word 01011111ddddxxxx. -/
  | divBIndr (rd : Reg) (rx : Reg)
  /-- MOD, mode Drct (R155, R113): first word 01100000dddd0000. -/
  | modDrct (rd : Reg) (dsp : Word)
  /-- MOD, mode Index (R155, R114): first word 01100001ddddxxxx. -/
  | modIndex (rd : Reg) (dsp : Word) (rx : Reg)
  /-- MOD, mode Imm (R155, R115): first word 01100010dddd0000. -/
  | modImm (rd : Reg) (imm : Word)
  /-- MOD, mode FP Rlt (R155, R116): first word 01100011ddddpppp. -/
  | modFpRlt (rd : Reg) (dsp4 : Int)
  /-- MOD, mode Reg (R155, R117): first word 01100100ddddssss. -/
  | modReg (rd : Reg) (rs : Reg)
  /-- MOD, mode Imm4 (R155, R118): first word 01100101ddddiiii. -/
  | modImm4 (rd : Reg) (imm4 : Int)
  /-- MOD, mode Indr (R155, R119): first word 01100110ddddxxxx. -/
  | modIndr (rd : Reg) (rx : Reg)
  /-- MOD, mode B Indr (R155, R120): first word 01100111ddddxxxx. -/
  | modBIndr (rd : Reg) (rx : Reg)
  /-- SHLA, mode Drct (R163, R113): first word 10000000dddd0000. -/
  | shlaDrct (rd : Reg) (dsp : Word)
  /-- SHLA, mode Index (R163, R114): first word 10000001ddddxxxx. -/
  | shlaIndex (rd : Reg) (dsp : Word) (rx : Reg)
  /-- SHLA, mode Imm (R163, R115): first word 10000010dddd0000. -/
  | shlaImm (rd : Reg) (imm : Word)
  /-- SHLA, mode FP Rlt (R163, R116): first word 10000011ddddpppp. -/
  | shlaFpRlt (rd : Reg) (dsp4 : Int)
  /-- SHLA, mode Reg (R163, R117): first word 10000100ddddssss. -/
  | shlaReg (rd : Reg) (rs : Reg)
  /-- SHLA, mode Imm4 (R163, R118): first word 10000101ddddiiii. -/
  | shlaImm4 (rd : Reg) (imm4 : Int)
  /-- SHLA, mode Indr (R163, R119): first word 10000110ddddxxxx. -/
  | shlaIndr (rd : Reg) (rx : Reg)
  /-- SHLA, mode B Indr (R163, R120): first word 10000111ddddxxxx. -/
  | shlaBIndr (rd : Reg) (rx : Reg)
  /-- SHLL, mode Drct (R164, R113): first word 10001000dddd0000. -/
  | shllDrct (rd : Reg) (dsp : Word)
  /-- SHLL, mode Index (R164, R114): first word 10001001ddddxxxx. -/
  | shllIndex (rd : Reg) (dsp : Word) (rx : Reg)
  /-- SHLL, mode Imm (R164, R115): first word 10001010dddd0000. -/
  | shllImm (rd : Reg) (imm : Word)
  /-- SHLL, mode FP Rlt (R164, R116): first word 10001011ddddpppp. -/
  | shllFpRlt (rd : Reg) (dsp4 : Int)
  /-- SHLL, mode Reg (R164, R117): first word 10001100ddddssss. -/
  | shllReg (rd : Reg) (rs : Reg)
  /-- SHLL, mode Imm4 (R164, R118): first word 10001101ddddiiii. -/
  | shllImm4 (rd : Reg) (imm4 : Int)
  /-- SHLL, mode Indr (R164, R119): first word 10001110ddddxxxx. -/
  | shllIndr (rd : Reg) (rx : Reg)
  /-- SHLL, mode B Indr (R164, R120): first word 10001111ddddxxxx. -/
  | shllBIndr (rd : Reg) (rx : Reg)
  /-- SHRA, mode Drct (R165, R113): first word 10010000dddd0000. -/
  | shraDrct (rd : Reg) (dsp : Word)
  /-- SHRA, mode Index (R165, R114): first word 10010001ddddxxxx. -/
  | shraIndex (rd : Reg) (dsp : Word) (rx : Reg)
  /-- SHRA, mode Imm (R165, R115): first word 10010010dddd0000. -/
  | shraImm (rd : Reg) (imm : Word)
  /-- SHRA, mode FP Rlt (R165, R116): first word 10010011ddddpppp. -/
  | shraFpRlt (rd : Reg) (dsp4 : Int)
  /-- SHRA, mode Reg (R165, R117): first word 10010100ddddssss. -/
  | shraReg (rd : Reg) (rs : Reg)
  /-- SHRA, mode Imm4 (R165, R118): first word 10010101ddddiiii. -/
  | shraImm4 (rd : Reg) (imm4 : Int)
  /-- SHRA, mode Indr (R165, R119): first word 10010110ddddxxxx. -/
  | shraIndr (rd : Reg) (rx : Reg)
  /-- SHRA, mode B Indr (R165, R120): first word 10010111ddddxxxx. -/
  | shraBIndr (rd : Reg) (rx : Reg)
  /-- SHRL, mode Drct (R166, R113): first word 10011000dddd0000. -/
  | shrlDrct (rd : Reg) (dsp : Word)
  /-- SHRL, mode Index (R166, R114): first word 10011001ddddxxxx. -/
  | shrlIndex (rd : Reg) (dsp : Word) (rx : Reg)
  /-- SHRL, mode Imm (R166, R115): first word 10011010dddd0000. -/
  | shrlImm (rd : Reg) (imm : Word)
  /-- SHRL, mode FP Rlt (R166, R116): first word 10011011ddddpppp. -/
  | shrlFpRlt (rd : Reg) (dsp4 : Int)
  /-- SHRL, mode Reg (R166, R117): first word 10011100ddddssss. -/
  | shrlReg (rd : Reg) (rs : Reg)
  /-- SHRL, mode Imm4 (R166, R118): first word 10011101ddddiiii. -/
  | shrlImm4 (rd : Reg) (imm4 : Int)
  /-- SHRL, mode Indr (R166, R119): first word 10011110ddddxxxx. -/
  | shrlIndr (rd : Reg) (rx : Reg)
  /-- SHRL, mode B Indr (R166, R120): first word 10011111ddddxxxx. -/
  | shrlBIndr (rd : Reg) (rx : Reg)
  /-- JZ, mode Drct (R174, R113): first word 1010000000000000. -/
  | jzDrct (dsp : Word)
  /-- JZ, mode Index (R174, R114): first word 101000010000xxxx. -/
  | jzIndex (dsp : Word) (rx : Reg)
  /-- JC, mode Drct (R175, R113): first word 1010000000010000. -/
  | jcDrct (dsp : Word)
  /-- JC, mode Index (R175, R114): first word 101000010001xxxx. -/
  | jcIndex (dsp : Word) (rx : Reg)
  /-- JM, mode Drct (R176, R113): first word 1010000000100000. -/
  | jmDrct (dsp : Word)
  /-- JM, mode Index (R176, R114): first word 101000010010xxxx. -/
  | jmIndex (dsp : Word) (rx : Reg)
  /-- JO, mode Drct (R177, R113): first word 1010000000110000. -/
  | joDrct (dsp : Word)
  /-- JO, mode Index (R177, R114): first word 101000010011xxxx. -/
  | joIndex (dsp : Word) (rx : Reg)
  /-- JGT, mode Drct (R178, R113): first word 1010000001000000. -/
  | jgtDrct (dsp : Word)
  /-- JGT, mode Index (R178, R114): first word 101000010100xxxx. -/
  | jgtIndex (dsp : Word) (rx : Reg)
  /-- JGE, mode Drct (R179, R113): first word 1010000001010000. -/
  | jgeDrct (dsp : Word)
  /-- JGE, mode Index (R179, R114): first word 101000010101xxxx. -/
  | jgeIndex (dsp : Word) (rx : Reg)
  /-- JLE, mode Drct (R180, R113): first word 1010000001100000. -/
  | jleDrct (dsp : Word)
  /-- JLE, mode Index (R180, R114): first word 101000010110xxxx. -/
  | jleIndex (dsp : Word) (rx : Reg)
  /-- JLT, mode Drct (R181, R113): first word 1010000001110000. -/
  | jltDrct (dsp : Word)
  /-- JLT, mode Index (R181, R114): first word 101000010111xxxx. -/
  | jltIndex (dsp : Word) (rx : Reg)
  /-- JNZ, mode Drct (R182, R113): first word 1010000010000000. -/
  | jnzDrct (dsp : Word)
  /-- JNZ, mode Index (R182, R114): first word 101000011000xxxx. -/
  | jnzIndex (dsp : Word) (rx : Reg)
  /-- JNC, mode Drct (R183, R113): first word 1010000010010000. -/
  | jncDrct (dsp : Word)
  /-- JNC, mode Index (R183, R114): first word 101000011001xxxx. -/
  | jncIndex (dsp : Word) (rx : Reg)
  /-- JNM, mode Drct (R184, R113): first word 1010000010100000. -/
  | jnmDrct (dsp : Word)
  /-- JNM, mode Index (R184, R114): first word 101000011010xxxx. -/
  | jnmIndex (dsp : Word) (rx : Reg)
  /-- JNO, mode Drct (R185, R113): first word 1010000010110000. -/
  | jnoDrct (dsp : Word)
  /-- JNO, mode Index (R185, R114): first word 101000011011xxxx. -/
  | jnoIndex (dsp : Word) (rx : Reg)
  /-- JHI, mode Drct (R186, R113): first word 1010000011000000. -/
  | jhiDrct (dsp : Word)
  /-- JHI, mode Index (R186, R114): first word 101000011100xxxx. -/
  | jhiIndex (dsp : Word) (rx : Reg)
  /-- JLS, mode Drct (R187, R113): first word 1010000011100000. -/
  | jlsDrct (dsp : Word)
  /-- JLS, mode Index (R187, R114): first word 101000011110xxxx. -/
  | jlsIndex (dsp : Word) (rx : Reg)
  /-- JMP, mode Drct (R188, R113): first word 1010000011110000. -/
  | jmpDrct (dsp : Word)
  /-- JMP, mode Index (R188, R114): first word 101000011111xxxx. -/
  | jmpIndex (dsp : Word) (rx : Reg)
  /-- CALL, mode Drct (R189, R113): first word 1010100000000000. -/
  | callDrct (dsp : Word)
  /-- CALL, mode Index (R189, R114): first word 101010010000xxxx. -/
  | callIndex (dsp : Word) (rx : Reg)
  /-- IN, mode Drct (R195, R113): first word 10110000dddd0000. -/
  | inDrct (rd : Reg) (dsp : Word)
  /-- IN, mode Indr (R195, R119): first word 10110110ddddxxxx. -/
  | inIndr (rd : Reg) (rx : Reg)
  /-- OUT, mode Drct (R199, R113): first word 10111000dddd0000. -/
  | outDrct (rd : Reg) (dsp : Word)
  /-- OUT, mode Indr (R199, R119): first word 10111110ddddxxxx. -/
  | outIndr (rd : Reg) (rx : Reg)
  /-- PUSH (R201): first word 11000000dddd0000. -/
  | push (rd : Reg)
  /-- POP (R202): first word 11000100dddd0000. -/
  | pop (rd : Reg)
  /-- RET (R203): first word 1101000000000000. -/
  | ret
  /-- RETI (R205): first word 1101010011110000. -/
  | reti
  /-- SVC (R210): first word 1111000000000000. -/
  | svc
  /-- HALT (R212): first word 1111111100000000. -/
  | halt
  deriving DecidableEq, Repr

end Sys2Proof
end

