-- ==== Sys2Proof/WellFormed.lean ====
section
/-! DEFINITION. Which instructions have an encoding: Dsp4 is an even number in -16..+14 and Imm4 a number in -8..+7 (R85).
Every other field is well formed by its type. -/

namespace Sys2Proof

/-- Dsp4 is even and in -16..+14, so that D4 = Dsp4/2 fits its four bits (R85, R116). -/
def dsp4Ok (dsp4 : Int) : Bool := decide (-16 ≤ dsp4 ∧ dsp4 ≤ 14 ∧ dsp4 % 2 = 0)

/-- Imm4 is in -8..+7, so that it fits the four bits of I4 (R85, R118). -/
def imm4Ok (imm4 : Int) : Bool := decide (-8 ≤ imm4 ∧ imm4 ≤ 7)

/-- The operands of an instruction are values its fields can hold (R85). -/
def Instr.wf : Instr → Bool
  | .ldFpRlt _ dsp4 | .stFpRlt _ dsp4 | .addFpRlt _ dsp4 | .subFpRlt _ dsp4 | .cmpFpRlt _ dsp4
  | .andFpRlt _ dsp4 | .orFpRlt _ dsp4 | .xorFpRlt _ dsp4 | .addsFpRlt _ dsp4 | .mulFpRlt _ dsp4
  | .divFpRlt _ dsp4 | .modFpRlt _ dsp4 | .shlaFpRlt _ dsp4 | .shllFpRlt _ dsp4 | .shraFpRlt _ dsp4
  | .shrlFpRlt _ dsp4 => dsp4Ok dsp4
  | .ldImm4 _ imm4 | .addImm4 _ imm4 | .subImm4 _ imm4 | .cmpImm4 _ imm4 | .andImm4 _ imm4 | .orImm4 _ imm4
  | .xorImm4 _ imm4 | .addsImm4 _ imm4 | .mulImm4 _ imm4 | .divImm4 _ imm4 | .modImm4 _ imm4
  | .shlaImm4 _ imm4 | .shllImm4 _ imm4 | .shraImm4 _ imm4 | .shrlImm4 _ imm4 => imm4Ok imm4
  | .no | .ldDrct _ _ | .ldIndex _ _ _ | .ldImm _ _ | .ldReg _ _ | .ldIndr _ _ | .ldBIndr _ _ | .stDrct _ _
  | .stIndex _ _ _ | .stIndr _ _ | .stBIndr _ _ | .addDrct _ _ | .addIndex _ _ _ | .addImm _ _ | .addReg _ _
  | .addIndr _ _ | .addBIndr _ _ | .subDrct _ _ | .subIndex _ _ _ | .subImm _ _ | .subReg _ _ | .subIndr _ _
  | .subBIndr _ _ | .cmpDrct _ _ | .cmpIndex _ _ _ | .cmpImm _ _ | .cmpReg _ _ | .cmpIndr _ _ | .cmpBIndr _ _
  | .andDrct _ _ | .andIndex _ _ _ | .andImm _ _ | .andReg _ _ | .andIndr _ _ | .andBIndr _ _ | .orDrct _ _
  | .orIndex _ _ _ | .orImm _ _ | .orReg _ _ | .orIndr _ _ | .orBIndr _ _ | .xorDrct _ _ | .xorIndex _ _ _
  | .xorImm _ _ | .xorReg _ _ | .xorIndr _ _ | .xorBIndr _ _ | .addsDrct _ _ | .addsIndex _ _ _
  | .addsImm _ _ | .addsReg _ _ | .addsIndr _ _ | .addsBIndr _ _ | .mulDrct _ _ | .mulIndex _ _ _
  | .mulImm _ _ | .mulReg _ _ | .mulIndr _ _ | .mulBIndr _ _ | .divDrct _ _ | .divIndex _ _ _ | .divImm _ _
  | .divReg _ _ | .divIndr _ _ | .divBIndr _ _ | .modDrct _ _ | .modIndex _ _ _ | .modImm _ _ | .modReg _ _
  | .modIndr _ _ | .modBIndr _ _ | .shlaDrct _ _ | .shlaIndex _ _ _ | .shlaImm _ _ | .shlaReg _ _
  | .shlaIndr _ _ | .shlaBIndr _ _ | .shllDrct _ _ | .shllIndex _ _ _ | .shllImm _ _ | .shllReg _ _
  | .shllIndr _ _ | .shllBIndr _ _ | .shraDrct _ _ | .shraIndex _ _ _ | .shraImm _ _ | .shraReg _ _
  | .shraIndr _ _ | .shraBIndr _ _ | .shrlDrct _ _ | .shrlIndex _ _ _ | .shrlImm _ _ | .shrlReg _ _
  | .shrlIndr _ _ | .shrlBIndr _ _ | .jzDrct _ | .jzIndex _ _ | .jcDrct _ | .jcIndex _ _ | .jmDrct _
  | .jmIndex _ _ | .joDrct _ | .joIndex _ _ | .jgtDrct _ | .jgtIndex _ _ | .jgeDrct _ | .jgeIndex _ _
  | .jleDrct _ | .jleIndex _ _ | .jltDrct _ | .jltIndex _ _ | .jnzDrct _ | .jnzIndex _ _ | .jncDrct _
  | .jncIndex _ _ | .jnmDrct _ | .jnmIndex _ _ | .jnoDrct _ | .jnoIndex _ _ | .jhiDrct _ | .jhiIndex _ _
  | .jlsDrct _ | .jlsIndex _ _ | .jmpDrct _ | .jmpIndex _ _ | .callDrct _ | .callIndex _ _ | .inDrct _ _
  | .inIndr _ _ | .outDrct _ _ | .outIndr _ _ | .push _ | .pop _ | .ret | .reti | .svc | .halt => true

/-- The same as a proposition, for statements. -/
abbrev Instr.WellFormed (i : Instr) : Prop := i.wf = true

end Sys2Proof
end

