-- ==== Sys2Proof/Decode.lean ====
section
/-! DEFINITION. The decoder and the encoder of TaC's instructions (spec R80 to R91), both written from the encoding tables.
The first word is OP (the 5-bit `op5` and the 3-bit mode), Rd and a last field; a second word, where there is one, is Dsp
or Imm (R80, R81). -/

namespace Sys2Proof

/-! ## Register numbers, conditions, immediates -/

/-- The register a 4-bit field names (R23, R86). -/
def Reg.ofBits (b : BitVec 4) : Reg :=
  match b.toNat with
  | 0 => .g0 | 1 => .g1 | 2 => .g2 | 3 => .g3 | 4 => .g4 | 5 => .g5 | 6 => .g6 | 7 => .g7
  | 8 => .g8 | 9 => .g9 | 10 => .g10 | 11 => .g11 | 12 => .fp | 13 => .sp | 14 => .usp | _ => .flag

/-- The 4-bit number of a register (R23, R86). -/
def Reg.bits : Reg → BitVec 4
  | .g0 => 0 | .g1 => 1 | .g2 => 2 | .g3 => 3 | .g4 => 4 | .g5 => 5 | .g6 => 6 | .g7 => 7
  | .g8 => 8 | .g9 => 9 | .g10 => 10 | .g11 => 11 | .fp => 12 | .sp => 13 | .usp => 14 | .flag => 15

/-- The condition in a jump's Rd field; Dh is blank (R88). -/
def Cond.ofBits (b : BitVec 4) : Option Cond :=
  match b.toNat with
  | 0 => some .z | 1 => some .c | 2 => some .m | 3 => some .o
  | 4 => some .gt | 5 => some .ge | 6 => some .le | 7 => some .lt
  | 8 => some .nz | 9 => some .nc | 10 => some .nm | 11 => some .no
  | 12 => some .hi | 13 => none | 14 => some .ls | _ => some .always

/-- A condition's code (R88). -/
def Cond.bits : Cond → BitVec 4
  | .z => 0 | .c => 1 | .m => 2 | .o => 3 | .gt => 4 | .ge => 5 | .le => 6 | .lt => 7
  | .nz => 8 | .nc => 9 | .nm => 10 | .no => 11 | .hi => 12 | .ls => 14 | .always => 15

/-- Dsp4 from its field: D4 sign-extended, times 2 (R85). -/
def dsp4OfBits (d4 : BitVec 4) : Int := 2 * d4.toInt

/-- The field D4 = Dsp4/2 (R82, R85). -/
def dsp4Bits (dsp4 : Int) : BitVec 4 := BitVec.ofInt 4 (dsp4 / 2)

/-- Imm4 from its field: I4 sign-extended (R85). -/
def imm4OfBits (i4 : BitVec 4) : Int := i4.toInt

/-- The field I4 (R85). -/
def imm4Bits (imm4 : Int) : BitVec 4 := BitVec.ofInt 4 imm4

/-- The operation of an `op5` value in the arithmetic rows (R87). -/
def ArithOp.op5 : ArithOp → BitVec 5
  | .add => 3 | .sub => 4 | .cmp => 5 | .and => 6 | .or => 7 | .xor => 8 | .adds => 9 | .mul => 10 | .div => 11 | .mod => 12

/-- The `op5` value of a shift (R87). -/
def ShiftOp.op5 : ShiftOp → BitVec 5
  | .shla => 16 | .shll => 17 | .shra => 18 | .shrl => 19

/-! ## The two views of an instruction -/

/-- The structured view of an instruction: its mnemonic's group and its operand (R123). -/
def Instr.form : Instr → Form
  | .no => .no
  | .ldDrct rd dsp => .ld rd (.drct dsp)
  | .ldIndex rd dsp rx => .ld rd (.index dsp rx)
  | .ldImm rd imm => .ld rd (.imm imm)
  | .ldFpRlt rd dsp4 => .ld rd (.fpRlt dsp4)
  | .ldReg rd rs => .ld rd (.reg rs)
  | .ldImm4 rd imm4 => .ld rd (.imm4 imm4)
  | .ldIndr rd rx => .ld rd (.indr rx)
  | .ldBIndr rd rx => .ld rd (.bIndr rx)
  | .stDrct rd dsp => .st rd (.drct dsp)
  | .stIndex rd dsp rx => .st rd (.index dsp rx)
  | .stFpRlt rd dsp4 => .st rd (.fpRlt dsp4)
  | .stIndr rd rx => .st rd (.indr rx)
  | .stBIndr rd rx => .st rd (.bIndr rx)
  | .addDrct rd dsp => .arith .add rd (.drct dsp)
  | .addIndex rd dsp rx => .arith .add rd (.index dsp rx)
  | .addImm rd imm => .arith .add rd (.imm imm)
  | .addFpRlt rd dsp4 => .arith .add rd (.fpRlt dsp4)
  | .addReg rd rs => .arith .add rd (.reg rs)
  | .addImm4 rd imm4 => .arith .add rd (.imm4 imm4)
  | .addIndr rd rx => .arith .add rd (.indr rx)
  | .addBIndr rd rx => .arith .add rd (.bIndr rx)
  | .subDrct rd dsp => .arith .sub rd (.drct dsp)
  | .subIndex rd dsp rx => .arith .sub rd (.index dsp rx)
  | .subImm rd imm => .arith .sub rd (.imm imm)
  | .subFpRlt rd dsp4 => .arith .sub rd (.fpRlt dsp4)
  | .subReg rd rs => .arith .sub rd (.reg rs)
  | .subImm4 rd imm4 => .arith .sub rd (.imm4 imm4)
  | .subIndr rd rx => .arith .sub rd (.indr rx)
  | .subBIndr rd rx => .arith .sub rd (.bIndr rx)
  | .cmpDrct rd dsp => .arith .cmp rd (.drct dsp)
  | .cmpIndex rd dsp rx => .arith .cmp rd (.index dsp rx)
  | .cmpImm rd imm => .arith .cmp rd (.imm imm)
  | .cmpFpRlt rd dsp4 => .arith .cmp rd (.fpRlt dsp4)
  | .cmpReg rd rs => .arith .cmp rd (.reg rs)
  | .cmpImm4 rd imm4 => .arith .cmp rd (.imm4 imm4)
  | .cmpIndr rd rx => .arith .cmp rd (.indr rx)
  | .cmpBIndr rd rx => .arith .cmp rd (.bIndr rx)
  | .andDrct rd dsp => .arith .and rd (.drct dsp)
  | .andIndex rd dsp rx => .arith .and rd (.index dsp rx)
  | .andImm rd imm => .arith .and rd (.imm imm)
  | .andFpRlt rd dsp4 => .arith .and rd (.fpRlt dsp4)
  | .andReg rd rs => .arith .and rd (.reg rs)
  | .andImm4 rd imm4 => .arith .and rd (.imm4 imm4)
  | .andIndr rd rx => .arith .and rd (.indr rx)
  | .andBIndr rd rx => .arith .and rd (.bIndr rx)
  | .orDrct rd dsp => .arith .or rd (.drct dsp)
  | .orIndex rd dsp rx => .arith .or rd (.index dsp rx)
  | .orImm rd imm => .arith .or rd (.imm imm)
  | .orFpRlt rd dsp4 => .arith .or rd (.fpRlt dsp4)
  | .orReg rd rs => .arith .or rd (.reg rs)
  | .orImm4 rd imm4 => .arith .or rd (.imm4 imm4)
  | .orIndr rd rx => .arith .or rd (.indr rx)
  | .orBIndr rd rx => .arith .or rd (.bIndr rx)
  | .xorDrct rd dsp => .arith .xor rd (.drct dsp)
  | .xorIndex rd dsp rx => .arith .xor rd (.index dsp rx)
  | .xorImm rd imm => .arith .xor rd (.imm imm)
  | .xorFpRlt rd dsp4 => .arith .xor rd (.fpRlt dsp4)
  | .xorReg rd rs => .arith .xor rd (.reg rs)
  | .xorImm4 rd imm4 => .arith .xor rd (.imm4 imm4)
  | .xorIndr rd rx => .arith .xor rd (.indr rx)
  | .xorBIndr rd rx => .arith .xor rd (.bIndr rx)
  | .addsDrct rd dsp => .arith .adds rd (.drct dsp)
  | .addsIndex rd dsp rx => .arith .adds rd (.index dsp rx)
  | .addsImm rd imm => .arith .adds rd (.imm imm)
  | .addsFpRlt rd dsp4 => .arith .adds rd (.fpRlt dsp4)
  | .addsReg rd rs => .arith .adds rd (.reg rs)
  | .addsImm4 rd imm4 => .arith .adds rd (.imm4 imm4)
  | .addsIndr rd rx => .arith .adds rd (.indr rx)
  | .addsBIndr rd rx => .arith .adds rd (.bIndr rx)
  | .mulDrct rd dsp => .arith .mul rd (.drct dsp)
  | .mulIndex rd dsp rx => .arith .mul rd (.index dsp rx)
  | .mulImm rd imm => .arith .mul rd (.imm imm)
  | .mulFpRlt rd dsp4 => .arith .mul rd (.fpRlt dsp4)
  | .mulReg rd rs => .arith .mul rd (.reg rs)
  | .mulImm4 rd imm4 => .arith .mul rd (.imm4 imm4)
  | .mulIndr rd rx => .arith .mul rd (.indr rx)
  | .mulBIndr rd rx => .arith .mul rd (.bIndr rx)
  | .divDrct rd dsp => .arith .div rd (.drct dsp)
  | .divIndex rd dsp rx => .arith .div rd (.index dsp rx)
  | .divImm rd imm => .arith .div rd (.imm imm)
  | .divFpRlt rd dsp4 => .arith .div rd (.fpRlt dsp4)
  | .divReg rd rs => .arith .div rd (.reg rs)
  | .divImm4 rd imm4 => .arith .div rd (.imm4 imm4)
  | .divIndr rd rx => .arith .div rd (.indr rx)
  | .divBIndr rd rx => .arith .div rd (.bIndr rx)
  | .modDrct rd dsp => .arith .mod rd (.drct dsp)
  | .modIndex rd dsp rx => .arith .mod rd (.index dsp rx)
  | .modImm rd imm => .arith .mod rd (.imm imm)
  | .modFpRlt rd dsp4 => .arith .mod rd (.fpRlt dsp4)
  | .modReg rd rs => .arith .mod rd (.reg rs)
  | .modImm4 rd imm4 => .arith .mod rd (.imm4 imm4)
  | .modIndr rd rx => .arith .mod rd (.indr rx)
  | .modBIndr rd rx => .arith .mod rd (.bIndr rx)
  | .shlaDrct rd dsp => .shift .shla rd (.drct dsp)
  | .shlaIndex rd dsp rx => .shift .shla rd (.index dsp rx)
  | .shlaImm rd imm => .shift .shla rd (.imm imm)
  | .shlaFpRlt rd dsp4 => .shift .shla rd (.fpRlt dsp4)
  | .shlaReg rd rs => .shift .shla rd (.reg rs)
  | .shlaImm4 rd imm4 => .shift .shla rd (.imm4 imm4)
  | .shlaIndr rd rx => .shift .shla rd (.indr rx)
  | .shlaBIndr rd rx => .shift .shla rd (.bIndr rx)
  | .shllDrct rd dsp => .shift .shll rd (.drct dsp)
  | .shllIndex rd dsp rx => .shift .shll rd (.index dsp rx)
  | .shllImm rd imm => .shift .shll rd (.imm imm)
  | .shllFpRlt rd dsp4 => .shift .shll rd (.fpRlt dsp4)
  | .shllReg rd rs => .shift .shll rd (.reg rs)
  | .shllImm4 rd imm4 => .shift .shll rd (.imm4 imm4)
  | .shllIndr rd rx => .shift .shll rd (.indr rx)
  | .shllBIndr rd rx => .shift .shll rd (.bIndr rx)
  | .shraDrct rd dsp => .shift .shra rd (.drct dsp)
  | .shraIndex rd dsp rx => .shift .shra rd (.index dsp rx)
  | .shraImm rd imm => .shift .shra rd (.imm imm)
  | .shraFpRlt rd dsp4 => .shift .shra rd (.fpRlt dsp4)
  | .shraReg rd rs => .shift .shra rd (.reg rs)
  | .shraImm4 rd imm4 => .shift .shra rd (.imm4 imm4)
  | .shraIndr rd rx => .shift .shra rd (.indr rx)
  | .shraBIndr rd rx => .shift .shra rd (.bIndr rx)
  | .shrlDrct rd dsp => .shift .shrl rd (.drct dsp)
  | .shrlIndex rd dsp rx => .shift .shrl rd (.index dsp rx)
  | .shrlImm rd imm => .shift .shrl rd (.imm imm)
  | .shrlFpRlt rd dsp4 => .shift .shrl rd (.fpRlt dsp4)
  | .shrlReg rd rs => .shift .shrl rd (.reg rs)
  | .shrlImm4 rd imm4 => .shift .shrl rd (.imm4 imm4)
  | .shrlIndr rd rx => .shift .shrl rd (.indr rx)
  | .shrlBIndr rd rx => .shift .shrl rd (.bIndr rx)
  | .jzDrct dsp => .jump .z (.drct dsp)
  | .jzIndex dsp rx => .jump .z (.index dsp rx)
  | .jcDrct dsp => .jump .c (.drct dsp)
  | .jcIndex dsp rx => .jump .c (.index dsp rx)
  | .jmDrct dsp => .jump .m (.drct dsp)
  | .jmIndex dsp rx => .jump .m (.index dsp rx)
  | .joDrct dsp => .jump .o (.drct dsp)
  | .joIndex dsp rx => .jump .o (.index dsp rx)
  | .jgtDrct dsp => .jump .gt (.drct dsp)
  | .jgtIndex dsp rx => .jump .gt (.index dsp rx)
  | .jgeDrct dsp => .jump .ge (.drct dsp)
  | .jgeIndex dsp rx => .jump .ge (.index dsp rx)
  | .jleDrct dsp => .jump .le (.drct dsp)
  | .jleIndex dsp rx => .jump .le (.index dsp rx)
  | .jltDrct dsp => .jump .lt (.drct dsp)
  | .jltIndex dsp rx => .jump .lt (.index dsp rx)
  | .jnzDrct dsp => .jump .nz (.drct dsp)
  | .jnzIndex dsp rx => .jump .nz (.index dsp rx)
  | .jncDrct dsp => .jump .nc (.drct dsp)
  | .jncIndex dsp rx => .jump .nc (.index dsp rx)
  | .jnmDrct dsp => .jump .nm (.drct dsp)
  | .jnmIndex dsp rx => .jump .nm (.index dsp rx)
  | .jnoDrct dsp => .jump .no (.drct dsp)
  | .jnoIndex dsp rx => .jump .no (.index dsp rx)
  | .jhiDrct dsp => .jump .hi (.drct dsp)
  | .jhiIndex dsp rx => .jump .hi (.index dsp rx)
  | .jlsDrct dsp => .jump .ls (.drct dsp)
  | .jlsIndex dsp rx => .jump .ls (.index dsp rx)
  | .jmpDrct dsp => .jump .always (.drct dsp)
  | .jmpIndex dsp rx => .jump .always (.index dsp rx)
  | .callDrct dsp => .call (.drct dsp)
  | .callIndex dsp rx => .call (.index dsp rx)
  | .inDrct rd dsp => .input rd (.drct dsp)
  | .inIndr rd rx => .input rd (.indr rx)
  | .outDrct rd dsp => .output rd (.drct dsp)
  | .outIndr rd rx => .output rd (.indr rx)
  | .push rd => .push rd
  | .pop rd => .pop rd
  | .ret => .ret
  | .reti => .reti
  | .svc => .svc
  | .halt => .halt

/-- The instruction, a row of the opcode table, that has a given structured view; the inverse of `Instr.form`. -/
def Instr.ofForm : Form → Instr
  | .no => .no
  | .ld rd (.drct dsp) => .ldDrct rd dsp
  | .ld rd (.index dsp rx) => .ldIndex rd dsp rx
  | .ld rd (.imm imm) => .ldImm rd imm
  | .ld rd (.fpRlt dsp4) => .ldFpRlt rd dsp4
  | .ld rd (.reg rs) => .ldReg rd rs
  | .ld rd (.imm4 imm4) => .ldImm4 rd imm4
  | .ld rd (.indr rx) => .ldIndr rd rx
  | .ld rd (.bIndr rx) => .ldBIndr rd rx
  | .st rd (.drct dsp) => .stDrct rd dsp
  | .st rd (.index dsp rx) => .stIndex rd dsp rx
  | .st rd (.fpRlt dsp4) => .stFpRlt rd dsp4
  | .st rd (.indr rx) => .stIndr rd rx
  | .st rd (.bIndr rx) => .stBIndr rd rx
  | .arith .add rd (.drct dsp) => .addDrct rd dsp
  | .arith .add rd (.index dsp rx) => .addIndex rd dsp rx
  | .arith .add rd (.imm imm) => .addImm rd imm
  | .arith .add rd (.fpRlt dsp4) => .addFpRlt rd dsp4
  | .arith .add rd (.reg rs) => .addReg rd rs
  | .arith .add rd (.imm4 imm4) => .addImm4 rd imm4
  | .arith .add rd (.indr rx) => .addIndr rd rx
  | .arith .add rd (.bIndr rx) => .addBIndr rd rx
  | .arith .sub rd (.drct dsp) => .subDrct rd dsp
  | .arith .sub rd (.index dsp rx) => .subIndex rd dsp rx
  | .arith .sub rd (.imm imm) => .subImm rd imm
  | .arith .sub rd (.fpRlt dsp4) => .subFpRlt rd dsp4
  | .arith .sub rd (.reg rs) => .subReg rd rs
  | .arith .sub rd (.imm4 imm4) => .subImm4 rd imm4
  | .arith .sub rd (.indr rx) => .subIndr rd rx
  | .arith .sub rd (.bIndr rx) => .subBIndr rd rx
  | .arith .cmp rd (.drct dsp) => .cmpDrct rd dsp
  | .arith .cmp rd (.index dsp rx) => .cmpIndex rd dsp rx
  | .arith .cmp rd (.imm imm) => .cmpImm rd imm
  | .arith .cmp rd (.fpRlt dsp4) => .cmpFpRlt rd dsp4
  | .arith .cmp rd (.reg rs) => .cmpReg rd rs
  | .arith .cmp rd (.imm4 imm4) => .cmpImm4 rd imm4
  | .arith .cmp rd (.indr rx) => .cmpIndr rd rx
  | .arith .cmp rd (.bIndr rx) => .cmpBIndr rd rx
  | .arith .and rd (.drct dsp) => .andDrct rd dsp
  | .arith .and rd (.index dsp rx) => .andIndex rd dsp rx
  | .arith .and rd (.imm imm) => .andImm rd imm
  | .arith .and rd (.fpRlt dsp4) => .andFpRlt rd dsp4
  | .arith .and rd (.reg rs) => .andReg rd rs
  | .arith .and rd (.imm4 imm4) => .andImm4 rd imm4
  | .arith .and rd (.indr rx) => .andIndr rd rx
  | .arith .and rd (.bIndr rx) => .andBIndr rd rx
  | .arith .or rd (.drct dsp) => .orDrct rd dsp
  | .arith .or rd (.index dsp rx) => .orIndex rd dsp rx
  | .arith .or rd (.imm imm) => .orImm rd imm
  | .arith .or rd (.fpRlt dsp4) => .orFpRlt rd dsp4
  | .arith .or rd (.reg rs) => .orReg rd rs
  | .arith .or rd (.imm4 imm4) => .orImm4 rd imm4
  | .arith .or rd (.indr rx) => .orIndr rd rx
  | .arith .or rd (.bIndr rx) => .orBIndr rd rx
  | .arith .xor rd (.drct dsp) => .xorDrct rd dsp
  | .arith .xor rd (.index dsp rx) => .xorIndex rd dsp rx
  | .arith .xor rd (.imm imm) => .xorImm rd imm
  | .arith .xor rd (.fpRlt dsp4) => .xorFpRlt rd dsp4
  | .arith .xor rd (.reg rs) => .xorReg rd rs
  | .arith .xor rd (.imm4 imm4) => .xorImm4 rd imm4
  | .arith .xor rd (.indr rx) => .xorIndr rd rx
  | .arith .xor rd (.bIndr rx) => .xorBIndr rd rx
  | .arith .adds rd (.drct dsp) => .addsDrct rd dsp
  | .arith .adds rd (.index dsp rx) => .addsIndex rd dsp rx
  | .arith .adds rd (.imm imm) => .addsImm rd imm
  | .arith .adds rd (.fpRlt dsp4) => .addsFpRlt rd dsp4
  | .arith .adds rd (.reg rs) => .addsReg rd rs
  | .arith .adds rd (.imm4 imm4) => .addsImm4 rd imm4
  | .arith .adds rd (.indr rx) => .addsIndr rd rx
  | .arith .adds rd (.bIndr rx) => .addsBIndr rd rx
  | .arith .mul rd (.drct dsp) => .mulDrct rd dsp
  | .arith .mul rd (.index dsp rx) => .mulIndex rd dsp rx
  | .arith .mul rd (.imm imm) => .mulImm rd imm
  | .arith .mul rd (.fpRlt dsp4) => .mulFpRlt rd dsp4
  | .arith .mul rd (.reg rs) => .mulReg rd rs
  | .arith .mul rd (.imm4 imm4) => .mulImm4 rd imm4
  | .arith .mul rd (.indr rx) => .mulIndr rd rx
  | .arith .mul rd (.bIndr rx) => .mulBIndr rd rx
  | .arith .div rd (.drct dsp) => .divDrct rd dsp
  | .arith .div rd (.index dsp rx) => .divIndex rd dsp rx
  | .arith .div rd (.imm imm) => .divImm rd imm
  | .arith .div rd (.fpRlt dsp4) => .divFpRlt rd dsp4
  | .arith .div rd (.reg rs) => .divReg rd rs
  | .arith .div rd (.imm4 imm4) => .divImm4 rd imm4
  | .arith .div rd (.indr rx) => .divIndr rd rx
  | .arith .div rd (.bIndr rx) => .divBIndr rd rx
  | .arith .mod rd (.drct dsp) => .modDrct rd dsp
  | .arith .mod rd (.index dsp rx) => .modIndex rd dsp rx
  | .arith .mod rd (.imm imm) => .modImm rd imm
  | .arith .mod rd (.fpRlt dsp4) => .modFpRlt rd dsp4
  | .arith .mod rd (.reg rs) => .modReg rd rs
  | .arith .mod rd (.imm4 imm4) => .modImm4 rd imm4
  | .arith .mod rd (.indr rx) => .modIndr rd rx
  | .arith .mod rd (.bIndr rx) => .modBIndr rd rx
  | .shift .shla rd (.drct dsp) => .shlaDrct rd dsp
  | .shift .shla rd (.index dsp rx) => .shlaIndex rd dsp rx
  | .shift .shla rd (.imm imm) => .shlaImm rd imm
  | .shift .shla rd (.fpRlt dsp4) => .shlaFpRlt rd dsp4
  | .shift .shla rd (.reg rs) => .shlaReg rd rs
  | .shift .shla rd (.imm4 imm4) => .shlaImm4 rd imm4
  | .shift .shla rd (.indr rx) => .shlaIndr rd rx
  | .shift .shla rd (.bIndr rx) => .shlaBIndr rd rx
  | .shift .shll rd (.drct dsp) => .shllDrct rd dsp
  | .shift .shll rd (.index dsp rx) => .shllIndex rd dsp rx
  | .shift .shll rd (.imm imm) => .shllImm rd imm
  | .shift .shll rd (.fpRlt dsp4) => .shllFpRlt rd dsp4
  | .shift .shll rd (.reg rs) => .shllReg rd rs
  | .shift .shll rd (.imm4 imm4) => .shllImm4 rd imm4
  | .shift .shll rd (.indr rx) => .shllIndr rd rx
  | .shift .shll rd (.bIndr rx) => .shllBIndr rd rx
  | .shift .shra rd (.drct dsp) => .shraDrct rd dsp
  | .shift .shra rd (.index dsp rx) => .shraIndex rd dsp rx
  | .shift .shra rd (.imm imm) => .shraImm rd imm
  | .shift .shra rd (.fpRlt dsp4) => .shraFpRlt rd dsp4
  | .shift .shra rd (.reg rs) => .shraReg rd rs
  | .shift .shra rd (.imm4 imm4) => .shraImm4 rd imm4
  | .shift .shra rd (.indr rx) => .shraIndr rd rx
  | .shift .shra rd (.bIndr rx) => .shraBIndr rd rx
  | .shift .shrl rd (.drct dsp) => .shrlDrct rd dsp
  | .shift .shrl rd (.index dsp rx) => .shrlIndex rd dsp rx
  | .shift .shrl rd (.imm imm) => .shrlImm rd imm
  | .shift .shrl rd (.fpRlt dsp4) => .shrlFpRlt rd dsp4
  | .shift .shrl rd (.reg rs) => .shrlReg rd rs
  | .shift .shrl rd (.imm4 imm4) => .shrlImm4 rd imm4
  | .shift .shrl rd (.indr rx) => .shrlIndr rd rx
  | .shift .shrl rd (.bIndr rx) => .shrlBIndr rd rx
  | .jump .z (.drct dsp) => .jzDrct dsp
  | .jump .z (.index dsp rx) => .jzIndex dsp rx
  | .jump .c (.drct dsp) => .jcDrct dsp
  | .jump .c (.index dsp rx) => .jcIndex dsp rx
  | .jump .m (.drct dsp) => .jmDrct dsp
  | .jump .m (.index dsp rx) => .jmIndex dsp rx
  | .jump .o (.drct dsp) => .joDrct dsp
  | .jump .o (.index dsp rx) => .joIndex dsp rx
  | .jump .gt (.drct dsp) => .jgtDrct dsp
  | .jump .gt (.index dsp rx) => .jgtIndex dsp rx
  | .jump .ge (.drct dsp) => .jgeDrct dsp
  | .jump .ge (.index dsp rx) => .jgeIndex dsp rx
  | .jump .le (.drct dsp) => .jleDrct dsp
  | .jump .le (.index dsp rx) => .jleIndex dsp rx
  | .jump .lt (.drct dsp) => .jltDrct dsp
  | .jump .lt (.index dsp rx) => .jltIndex dsp rx
  | .jump .nz (.drct dsp) => .jnzDrct dsp
  | .jump .nz (.index dsp rx) => .jnzIndex dsp rx
  | .jump .nc (.drct dsp) => .jncDrct dsp
  | .jump .nc (.index dsp rx) => .jncIndex dsp rx
  | .jump .nm (.drct dsp) => .jnmDrct dsp
  | .jump .nm (.index dsp rx) => .jnmIndex dsp rx
  | .jump .no (.drct dsp) => .jnoDrct dsp
  | .jump .no (.index dsp rx) => .jnoIndex dsp rx
  | .jump .hi (.drct dsp) => .jhiDrct dsp
  | .jump .hi (.index dsp rx) => .jhiIndex dsp rx
  | .jump .ls (.drct dsp) => .jlsDrct dsp
  | .jump .ls (.index dsp rx) => .jlsIndex dsp rx
  | .jump .always (.drct dsp) => .jmpDrct dsp
  | .jump .always (.index dsp rx) => .jmpIndex dsp rx
  | .call (.drct dsp) => .callDrct dsp
  | .call (.index dsp rx) => .callIndex dsp rx
  | .input rd (.drct dsp) => .inDrct rd dsp
  | .input rd (.indr rx) => .inIndr rd rx
  | .output rd (.drct dsp) => .outDrct rd dsp
  | .output rd (.indr rx) => .outIndr rd rx
  | .push rd => .push rd
  | .pop rd => .pop rd
  | .ret => .ret
  | .reti => .reti
  | .svc => .svc
  | .halt => .halt

/-! ## Fields of the first word (R80) -/

/-- OP's high five bits: the instruction. -/
def fieldOp5 (w : Word) : BitVec 5 := w.extractLsb' 11 5

/-- OP's low three bits: the addressing mode. -/
def fieldMode (w : Word) : BitVec 3 := w.extractLsb' 8 3

/-- The Rd field. -/
def fieldRd (w : Word) : BitVec 4 := w.extractLsb' 4 4

/-- The last field: Rx, Rs, D4, I4 or a fixed 0h. -/
def fieldLast (w : Word) : BitVec 4 := w.extractLsb' 0 4

/-- A first word from its four fields. -/
def firstWord (op5 : BitVec 5) (mode : BitVec 3) (rd last : BitVec 4) : Word := (op5 ++ mode ++ rd ++ last : BitVec (5 + 3 + 4 + 4))

/-! ## Decoding -/

/-- Why bytes are no instruction. -/
inductive DecodeError where
  /-- A blank cell of the opcode map, or a jump with Rd = Dh (R90 a, b): it raises UndefinedInstruction (R91). -/
  | undefined
  /-- A defined opcode with another digit than the printed one in a fixed field (R90 c): refused (R89). -/
  | nonCanonical
  /-- The bytes end before the instruction does. -/
  | truncated
  deriving DecidableEq, Repr

/-- The eight operand modes; modes 0 and 2 have a last field fixed at 0h (R82, R83, R89). The result waits for the second word. -/
def decodeOperand (mode : BitVec 3) (last : BitVec 4) : Except DecodeError (Word → Operand) :=
  match mode.toNat with
  | 0 => if last = 0 then .ok fun w2 => .drct w2 else .error .nonCanonical
  | 1 => .ok fun w2 => .index w2 (Reg.ofBits last)
  | 2 => if last = 0 then .ok fun w2 => .imm w2 else .error .nonCanonical
  | 3 => .ok fun _ => .fpRlt (dsp4OfBits last)
  | 4 => .ok fun _ => .reg (Reg.ofBits last)
  | 5 => .ok fun _ => .imm4 (imm4OfBits last)
  | 6 => .ok fun _ => .indr (Reg.ofBits last)
  | _ => .ok fun _ => .bIndr (Reg.ofBits last)

/-- ST's five modes; 12h, 14h and 15h are blank (R87, R133). -/
def decodePlace (mode : BitVec 3) (last : BitVec 4) : Except DecodeError (Word → Place) :=
  match mode.toNat with
  | 0 => if last = 0 then .ok fun w2 => .drct w2 else .error .nonCanonical
  | 1 => .ok fun w2 => .index w2 (Reg.ofBits last)
  | 3 => .ok fun _ => .fpRlt (dsp4OfBits last)
  | 6 => .ok fun _ => .indr (Reg.ofBits last)
  | 7 => .ok fun _ => .bIndr (Reg.ofBits last)
  | _ => .error .undefined

/-- The two modes of the jumps and CALL (R87, R170). -/
def decodeTarget (mode : BitVec 3) (last : BitVec 4) : Except DecodeError (Word → Target) :=
  match mode.toNat with
  | 0 => if last = 0 then .ok fun w2 => .drct w2 else .error .nonCanonical
  | 1 => .ok fun w2 => .index w2 (Reg.ofBits last)
  | _ => .error .undefined

/-- The two modes of IN and OUT (R87, R195). -/
def decodePort (mode : BitVec 3) (last : BitVec 4) : Except DecodeError (Word → Port) :=
  match mode.toNat with
  | 0 => if last = 0 then .ok fun w2 => .drct w2 else .error .nonCanonical
  | 6 => .ok fun _ => .indr (Reg.ofBits last)
  | _ => .error .undefined

/-- An instruction with no operand field left free: its low byte must be the printed one (R89). -/
def decodeFixed (rd last rdFixed lastFixed : BitVec 4) (f : Form) : Except DecodeError (Word → Form) :=
  if rd = rdFixed ∧ last = lastFixed then .ok fun _ => f else .error .nonCanonical

/-- The form of the decoded first word (R87), waiting for the second word. -/
def decodeForm (w : Word) : Except DecodeError (Word → Form) :=
  let mode := fieldMode w
  let rd := fieldRd w
  let last := fieldLast w
  let operand (k : Reg → Operand → Form) : Except DecodeError (Word → Form) :=
    (decodeOperand mode last).map fun o w2 => k (Reg.ofBits rd) (o w2)
  match (fieldOp5 w).toNat with
  | 0 => if mode = 0 then decodeFixed rd last 0 0 .no else .error .undefined
  | 1 => operand .ld
  | 2 => (decodePlace mode last).map fun p w2 => .st (Reg.ofBits rd) (p w2)
  | 3 => operand (.arith .add)
  | 4 => operand (.arith .sub)
  | 5 => operand (.arith .cmp)
  | 6 => operand (.arith .and)
  | 7 => operand (.arith .or)
  | 8 => operand (.arith .xor)
  | 9 => operand (.arith .adds)
  | 10 => operand (.arith .mul)
  | 11 => operand (.arith .div)
  | 12 => operand (.arith .mod)
  | 16 => operand (.shift .shla)
  | 17 => operand (.shift .shll)
  | 18 => operand (.shift .shra)
  | 19 => operand (.shift .shrl)
  | 20 =>
    match Cond.ofBits rd with
    | none => .error .undefined
    | some cond => (decodeTarget mode last).map fun t w2 => .jump cond (t w2)
  | 21 =>
    match decodeTarget mode last with
    | .error e => .error e
    | .ok t => if rd = 0 then .ok fun w2 => .call (t w2) else .error .nonCanonical
  | 22 => (decodePort mode last).map fun p w2 => .input (Reg.ofBits rd) (p w2)
  | 23 => (decodePort mode last).map fun p w2 => .output (Reg.ofBits rd) (p w2)
  | 24 =>
    if mode = 0 then (if last = 0 then .ok fun _ => .push (Reg.ofBits rd) else .error .nonCanonical)
    else if mode = 4 then (if last = 0 then .ok fun _ => .pop (Reg.ofBits rd) else .error .nonCanonical)
    else .error .undefined
  | 26 =>
    if mode = 0 then decodeFixed rd last 0 0 .ret
    else if mode = 4 then decodeFixed rd last 15 0 .reti
    else .error .undefined
  | 30 => if mode = 0 then decodeFixed rd last 0 0 .svc else .error .undefined
  | 31 => if mode = 7 then decodeFixed rd last 0 0 .halt else .error .undefined
  | _ => .error .undefined

/-- What the first word decides (R84): the instruction, waiting for the second word, or why there is none. -/
def decodeFirst (w : Word) : Except DecodeError (Word → Instr) :=
  (decodeForm w).map fun f w2 => Instr.ofForm (f w2)

/-- Whether a defined instruction has a second word, by its first word alone (R84): modes 0 to 2 of LD to MOD, of the
shifts, of the jumps, CALL, IN and OUT. -/
def hasSecondWord (w : Word) : Bool :=
  let op5 := (fieldOp5 w).toNat
  decide ((fieldMode w).toNat ≤ 2 ∧ (1 ≤ op5 ∧ op5 ≤ 12 ∨ 16 ≤ op5 ∧ op5 ≤ 23))

/-- A word from its two bytes, the high one first (R50). -/
def wordOfBytes (hi lo : Byte) : Word := (hi ++ lo : BitVec (8 + 8))

/-- The high byte of a word. -/
def hiByte (w : Word) : Byte := w.extractLsb' 8 8

/-- The low byte of a word. -/
def loByte (w : Word) : Byte := w.extractLsb' 0 8

/-- Read one instruction from bytes in memory order, and what is left of them (R50, R80, R81). -/
def decode : List Byte → Except DecodeError (Instr × List Byte)
  | h1 :: l1 :: rest =>
    match decodeFirst (wordOfBytes h1 l1) with
    | .error e => .error e
    | .ok build =>
      if hasSecondWord (wordOfBytes h1 l1) then
        match rest with
        | h2 :: l2 :: rest' => .ok (build (wordOfBytes h2 l2), rest')
        | _ => .error .truncated
      else .ok (build 0, rest)
  | _ => .error .truncated

/-! ## Encoding -/

/-- Mode, last field and second word of an operand (R82, R83). -/
def Operand.encode : Operand → BitVec 3 × BitVec 4 × List Word
  | .drct dsp => (0, 0, [dsp])
  | .index dsp rx => (1, rx.bits, [dsp])
  | .imm v => (2, 0, [v])
  | .fpRlt dsp4 => (3, dsp4Bits dsp4, [])
  | .reg rs => (4, rs.bits, [])
  | .imm4 v => (5, imm4Bits v, [])
  | .indr rx => (6, rx.bits, [])
  | .bIndr rx => (7, rx.bits, [])

/-- The same for a place of ST (R133). -/
def Place.encode : Place → BitVec 3 × BitVec 4 × List Word
  | .drct dsp => (0, 0, [dsp])
  | .index dsp rx => (1, rx.bits, [dsp])
  | .fpRlt dsp4 => (3, dsp4Bits dsp4, [])
  | .indr rx => (6, rx.bits, [])
  | .bIndr rx => (7, rx.bits, [])

/-- The same for a jump's or CALL's target (R170). -/
def Target.encode : Target → BitVec 3 × BitVec 4 × List Word
  | .drct dsp => (0, 0, [dsp])
  | .index dsp rx => (1, rx.bits, [dsp])

/-- The same for a port operand (R195). -/
def Port.encode : Port → BitVec 3 × BitVec 4 × List Word
  | .drct dsp => (0, 0, [dsp])
  | .indr rx => (6, rx.bits, [])

/-- The words of an instruction with an operand field. -/
def encodeWith (op5 : BitVec 5) (rd : BitVec 4) (x : BitVec 3 × BitVec 4 × List Word) : List Word :=
  firstWord op5 x.1 rd x.2.1 :: x.2.2

/-- The words of a form (R82, R87, R88, R89). -/
def Form.encode : Form → List Word
  | .no => [firstWord 0 0 0 0]
  | .ld rd o => encodeWith 1 rd.bits o.encode
  | .st rd p => encodeWith 2 rd.bits p.encode
  | .arith op rd o => encodeWith op.op5 rd.bits o.encode
  | .shift op rd o => encodeWith op.op5 rd.bits o.encode
  | .jump cond t => encodeWith 20 cond.bits t.encode
  | .call t => encodeWith 21 0 t.encode
  | .input rd p => encodeWith 22 rd.bits p.encode
  | .output rd p => encodeWith 23 rd.bits p.encode
  | .push rd => [firstWord 24 0 rd.bits 0]
  | .pop rd => [firstWord 24 4 rd.bits 0]
  | .ret => [firstWord 26 0 0 0]
  | .reti => [firstWord 26 4 15 0]
  | .svc => [firstWord 30 0 0 0]
  | .halt => [firstWord 31 7 0 0]

/-- The words of an instruction, first word first. -/
def encode (i : Instr) : List Word := i.form.encode

/-- Words as bytes in memory order (R50). -/
def bytesOfWords : List Word → List Byte
  | [] => []
  | w :: ws => hiByte w :: loByte w :: bytesOfWords ws

/-- The bytes of an instruction in memory order. -/
def encodeBytes (i : Instr) : List Byte := bytesOfWords (encode i)

/-! ## The opcode table's numbering -/

/-- The four bytes in memory order of an instruction whose bits are `w` as spec/opcode_table.json numbers them: the first
word is bits 15..0, the second bits 31..16, and the bits from `nbits` on are 0. -/
def tableBytes (nbits w : Nat) : List Byte :=
  let v := w % 2 ^ nbits
  bytesOfWords [BitVec.ofNat 16 v, BitVec.ofNat 16 (v / 65536)]

/-- The instruction the decoder reads from an opcode-table word. -/
def decodeTableWord (nbits w : Nat) : Option Instr :=
  match decode (tableBytes nbits w) with
  | .ok (i, _) => some i
  | .error _ => none

end Sys2Proof
end

