-- ==== Sys2Proof/Config.lean ====
section
/-! DEFINITION. The open parameters of the spec (R5) and its draws (R9), as constants without a body: no proof can see
a value of one, so a claim holds for every value. Each is named in the assumption log. -/

namespace Sys2Proof

/-- The ten interrupt sources (R240). -/
inductive IntSource where
  | timer0 | timer1 | rn4020Rx | rn4020Tx | ft232rlRx | ft232rlTx | tecRx | tecTx | microSd | pio
  deriving DecidableEq, Repr

/-- The sixteen users of the vector table's sixteen rows (R221, R232): ten interrupts and six exceptions; memVio and
badAddr share `memoryViolation` (R225). -/
inductive VectorSlot where
  | interrupt (src : IntSource)
  | tlbMiss
  | memoryViolation
  | zeroDivide
  | privilegeViolation
  | undefinedInstruction
  | supervisorCall
  deriving DecidableEq, Repr

/-- One entry of the I/O trace (R196, R197, R198). -/
inductive IoEvent where
  /-- An IN from the port at `a`. -/
  | input (a : Word)
  /-- An OUT of `v` to the port at `a`. -/
  | output (a v : Word)
  deriving DecidableEq, Repr

namespace Config

/-- `DIVMOD` (R5, R153): quotient and remainder outside the common non-negative domain. -/
opaque divmod : Word → Word → Word × Word

/-- `SHIFT_BIG` (R5, R162): the result of a shift by 16 or more. -/
opaque shiftBig : ShiftOp → Word → Word → Word

/-- `VECTOR` (R5, R232): which of the sixteen rows each slot uses. Distinct slots use distinct rows, so the assignment is
a permutation; the identity is the assignment of R232's table. -/
opaque vectorPerm : Equiv.Perm VectorSlot

/-- `EXC_SAVED_PC` (R5, R236): true where the exception saves the address of its own instruction, false where it saves
the PC as the fetches made so far have advanced it. -/
opaque excSavesOwnPc : VectorSlot → Bool

/-- `INT_PRIORITY` (R5, R244): a total order on the interrupt sources, as a permutation of the list of R240. -/
opaque intPriority : Equiv.Perm IntSource

/-- `IPL_ROM` (R5, R58): the byte the IPL ROM shows at an address in E000h to FFDFh. -/
opaque iplRom : Word → Byte

/-- `IO_ORACLE` (R5, R196): what a device presents at a port, by the I/O history, the boundary count and the address. -/
opaque ioOracle : List IoEvent → Nat → Word → Word

/-- The spec's `draw(n)` (R8, R9): the k-th drawn value, of `w` bits. -/
opaque draw : (w : Nat) → Nat → BitVec w

/-- Whether a source's request condition holds at an instruction boundary (R240, R241). -/
opaque deviceRequests : List IoEvent → Nat → IntSource → Bool

/-- How many bytes one microSD transfer may write (R78, R265): the block size is not in the source. -/
opaque sdBlockBytes : Nat

/-- The byte that a running microSD transfer leaves at physical address `pa` of its buffer at time `time` (R78). -/
opaque sdByte : (time : Nat) → (pa : Word) → Byte

/-- Whether the FT232RL's Stat and Ctrl registers are at the first of its rows, 08h, and its data register at 0Ah (R264: the
addresses are lost; false is the layout of 93_implementation_defined.md GK6). -/
opaque ft232rlCtrlFirst : Bool

/-- The same for the TeC's serial unit, rows 0Ch and 0Eh (R264). -/
opaque tecCtrlFirst : Bool

/-- The row of the RN4020's data register among the ten unnamed rows of 18h to 2Eh (R264: not recoverable). -/
opaque rn4020DataRow : Fin 10

/-- The row of the RN4020's Stat and Ctrl registers, likewise (R264). -/
opaque rn4020CtrlRow : Fin 10

/-- The row of the port 出力ポートHi among all unnamed rows (R266: not given). -/
opaque portHiRow : Fin 46

/-- The row of RN4020-RAM, likewise (R266: not given). -/
opaque rn4020RamRow : Fin 46

end Config

end Sys2Proof
end

