-- ==== Sys2Proof/Machine/State.lean ====
section
/-! DEFINITION. The machine's state as plain data (spec 10_state.md), the reasons a step can stop, and the state after
reset (R38, R280). INVENTORY.md lists each field with its rule and reset value. -/

namespace Sys2Proof.Machine

/-- The eight bits of FLAG (R25, R26): interrupt enable, privilege, I/O privilege, the storage bit U, overflow, carry,
sign, zero. Bits 15..8 of the register are hard-wired 0 and not stored. -/
structure Flag where
  e : Bool
  p : Bool
  i : Bool
  u : Bool
  v : Bool
  c : Bool
  s : Bool
  z : Bool
  deriving DecidableEq, Repr

/-- The physical registers behind the sixteen register numbers (R20 to R23). -/
inductive PhysReg where
  | g0 | g1 | g2 | g3 | g4 | g5 | g6 | g7 | g8 | g9 | g10 | g11 | fp | ssp | usp | flag
  deriving DecidableEq, Repr

/-- What a memory access is for (R69). -/
inductive AccessKind where
  | read | write | execute
  deriving DecidableEq, Repr

/-- The six exceptions with the details they record (R221); memVio and badAddr are the two causes of MemoryViolation. -/
inductive Exc where
  | privilegeViolation
  | supervisorCall
  | memVio (addr : Word)
  | badAddr (addr : Word)
  | tlbMiss (page : Byte)
  | undefinedInstruction
  | zeroDivide
  deriving DecidableEq, Repr

/-- Memory: the bytes that differ from what an unlisted address reads as, by rising address (see `Memory.wf`). -/
abbrev Memory := List Host.Cell

/-- A timer (R35, R262). -/
structure Timer where
  period : Word
  current : Word
  control : Word
  flag : Word
  deriving DecidableEq, Repr

/-- One request bit per interrupt source (R36, R240). -/
structure Pending where
  timer0 : Bool
  timer1 : Bool
  rn4020Rx : Bool
  rn4020Tx : Bool
  ft232rlRx : Bool
  ft232rlTx : Bool
  tecRx : Bool
  tecTx : Bool
  microSd : Bool
  pio : Bool
  deriving DecidableEq, Repr

/-- What an OUT leaves in a serial unit (R264): its data register and its Ctrl register, bits 7 (T) and 6 (R). -/
structure Serial where
  data : Byte
  ctrl : Byte
  deriving DecidableEq, Repr

/-- The registers of the devices that the spec names and an OUT writes (R262 to R269). -/
structure Devices where
  timer0 : Timer
  timer1 : Timer
  /-- uSD-Ctrl: bit 7 INT_ENA, 2 INIT, 1 READ, 0 WRITE (R265). -/
  sdCtrl : Byte
  sdMemAddr : Word
  sdBlkAddrH : Word
  sdBlkAddrL : Word
  /-- The buffer addresses of the microSD transfers that have been started and whose completion software has not seen (R78). -/
  sdBuffers : List Word
  /-- The three serial units (R264). -/
  serialFt232rl : Serial
  serialTec : Serial
  serialRn4020 : Serial
  /-- The mode register of port 1Eh (R266). -/
  boardMode : BitVec 3
  /-- RN4020-Cmd, bits FHCS (R266). -/
  rn4020Cmd : BitVec 4
  /-- RN4020-RAM: reset does not change it (R266, R38). -/
  rn4020Ram : Byte
  /-- 出力ポートHi, bits M000 VVVV (R266). -/
  portHi : Byte
  /-- The TeC console's data switches, function switches and control (rows 32h, 34h, 36h; R267). -/
  tecDataSw : Byte
  tecFuncSw : Byte
  tecCtrl : Byte
  /-- The console's data register (row F8h; R269). -/
  consoleData : Word
  /-- The PIO, whose ports are lost, may have been enabled to interrupt by an OUT (R240, R241). -/
  pioIrq : Bool
  deriving DecidableEq, Repr

/-- The whole machine. -/
structure State where
  g0 : Word
  g1 : Word
  g2 : Word
  g3 : Word
  g4 : Word
  g5 : Word
  g6 : Word
  g7 : Word
  g8 : Word
  g9 : Word
  g10 : Word
  g11 : Word
  fp : Word
  ssp : Word
  usp : Word
  /-- Between steps, and where `exec` starts: the address of the next instruction's first word (`pc0` of R110). -/
  pc : Word
  flag : Flag
  mem : Memory
  /-- The eight TLB entries of 24 bits (R66). -/
  tlb : Vector (BitVec 24) 8
  iplDetached : Bool
  mmuEnabled : Bool
  /-- The violation registers (R71), each with the model's note that an exception has set it and no IN has read it since. -/
  violationAddress : Word
  violationAddressFresh : Bool
  violationCause : BitVec 2
  violationCauseFresh : Bool
  faultPage : Byte
  faultPageFresh : Bool
  halted : Bool
  pending : Pending
  dev : Devices
  /-- The I/O trace, oldest entry first (R198). -/
  trace : List IoEvent
  /-- The model's own counter of drawn values: `Config.draw` is applied to it. -/
  draws : Nat
  deriving DecidableEq, Repr

/-- Why the machine stops. -/
inductive Fault where
  /-- Raised by trap entry when a push is at an odd address (R238). Safe: the spec does not recurse, the model stops. -/
  | doubleFault
  /-- Raised by `step` in a halted state (R212, D26): the normal end of a run, which has no successor. Safe: nothing is
  claimed of what could restart the CPU. -/
  | halted
  deriving DecidableEq, Repr

/-- Cases the spec refuses to give a meaning (its `refuse(...)`, R9). All are safe: the model stops where hardware goes on. -/
inductive Refusal where
  /-- An instruction without a meaning in this model. No arm answers it. -/
  | notModelled (mnemonic : String)
  /-- Raised by fetch: a defined opcode with another digit in a fixed field (R89). -/
  | nonCanonicalEncoding (w : Word)
  /-- Raised by a flag-changing instruction, CMP apart, whose Rd is FLAG (R140, R160). -/
  | flagDestination
  /-- Raised by PUSH of the stack pointer the push uses (R201). -/
  | pushOfStackPointerInUse
  /-- Raised by POP into the stack pointer the pop uses (R202). -/
  | popOfStackPointerInUse
  /-- Raised by IN and OUT at an address above FFh (R196, R197). -/
  | ioAddressOutOfRange
  /-- Raised by IN and OUT at an odd address (R196, R197). -/
  | ioAddressOdd
  /-- Raised by OUT to A0h with bit 0 = 0 (R197). -/
  | iplReattach
  /-- Raised by OUT to A4h or A6h (R197). -/
  | outToInputPort
  /-- Raised by a write into E000h to FFDFh while the IPL ROM is attached (R55, R58). -/
  | iplRomWrite
  /-- Raised by translation when two valid TLB entries name one page (R69). -/
  | tlbConflict
  deriving DecidableEq, Repr

/-- What one step answers. -/
abbrev Result := Host.Outcome State Fault Refusal

/-- What an access, or any part of an instruction that can raise, answers: a value and the state after it; an exception
with the state it leaves (TLB marks of the accesses that succeeded, R234); or a refusal. -/
inductive Access (α : Type) where
  | done (v : α) (s : State)
  | raised (e : Exc) (s : State)
  | refused (r : Refusal)
  deriving DecidableEq, Repr

/-- No source requests. -/
def Pending.none : Pending :=
  { timer0 := false, timer1 := false, rn4020Rx := false, rn4020Tx := false, ft232rlRx := false, ft232rlTx := false,
    tecRx := false, tecTx := false, microSd := false, pio := false }

/-- A timer after reset (R38: unspecified; DESIGN CHOICE, log 5). -/
def Timer.reset : Timer := { period := 0, current := 0, control := 0, flag := 0 }

/-- A serial unit after reset (R38: unspecified; DESIGN CHOICE, log 5). -/
def Serial.reset : Serial := { data := 0, ctrl := 0 }

/-- The devices after reset: RN4020-Cmd is 0001b (R38); the rest is unspecified (DESIGN CHOICE, log 5, 16, 17, 27). -/
def Devices.reset : Devices :=
  { timer0 := Timer.reset, timer1 := Timer.reset, sdCtrl := 0, sdMemAddr := 0, sdBlkAddrH := 0, sdBlkAddrL := 0,
    sdBuffers := [], serialFt232rl := Serial.reset, serialTec := Serial.reset, serialRn4020 := Serial.reset,
    boardMode := 0, rn4020Cmd := 1, rn4020Ram := 0, portHi := 0, tecDataSw := 0, tecFuncSw := 0, tecCtrl := 0,
    consoleData := 0, pioIrq := false }

/-- The state after reset (R38, R280): P = 1, E = 0, the IPL ROM attached, the MMU off, not halted. PC is the suggested
RESET_PC (R281; DESIGN CHOICE, log 3); registers, flags, TLB and RAM the spec leaves unspecified are 0 (DESIGN CHOICE,
log 1, 2, 4, 6). -/
def State.reset : State :=
  { g0 := 0, g1 := 0, g2 := 0, g3 := 0, g4 := 0, g5 := 0, g6 := 0, g7 := 0, g8 := 0, g9 := 0, g10 := 0, g11 := 0,
    fp := 0, ssp := 0, usp := 0, pc := 0xE000,
    flag := { e := false, p := true, i := false, u := false, v := false, c := false, s := false, z := false },
    mem := [], tlb := Vector.replicate 8 0, iplDetached := false, mmuEnabled := false,
    violationAddress := 0, violationAddressFresh := false, violationCause := 0, violationCauseFresh := false,
    faultPage := 0, faultPageFresh := false, halted := false, pending := Pending.none, dev := Devices.reset,
    trace := [], draws := 0 }

end Sys2Proof.Machine
end

