-- ==== Sys2Proof/Machine/Flags.lean ====
section
/-! DEFINITION. FLAG as a word and the flag computations (spec R25 to R27, R141 to R144, R161, R172). -/

namespace Sys2Proof.Machine

/-- FLAG read as a register: bits 15..8 are 0, then E P I U V C S Z (R25). -/
def Flag.toWord (f : Flag) : Word :=
  (0#8 ++ BitVec.ofBool f.e ++ BitVec.ofBool f.p ++ BitVec.ofBool f.i ++ BitVec.ofBool f.u ++
    BitVec.ofBool f.v ++ BitVec.ofBool f.c ++ BitVec.ofBool f.s ++ BitVec.ofBool f.z : BitVec (8 + 1 + 1 + 1 + 1 + 1 + 1 + 1 + 1))

/-- The eight flags held in bits 7..0 of a word (R25); bits 15..8 are ignored. -/
def Flag.ofWord (w : Word) : Flag :=
  { e := w.getLsbD 7, p := w.getLsbD 6, i := w.getLsbD 5, u := w.getLsbD 4,
    v := w.getLsbD 3, c := w.getLsbD 2, s := w.getLsbD 1, z := w.getLsbD 0 }

/-- A write of register 15 or RETI's load: in privileged mode all eight bits, in user mode U, V, C, S, Z only (R24, R205). -/
def Flag.load (f : Flag) (w : Word) : Flag :=
  if f.p then Flag.ofWord w
  else { f with u := w.getLsbD 4, v := w.getLsbD 3, c := w.getLsbD 2, s := w.getLsbD 1, z := w.getLsbD 0 }

/-- FLAG after a flag-changing instruction: Z and S from the result (R141), C and V as given; E, P, I, U kept. -/
def Flag.after (f : Flag) (r : Word) (c v : Bool) : Flag :=
  { f with v := v, c := c, s := r.getLsbD 15, z := decide (r = 0) }

/-- FLAG during a trap: privileged, interrupts disabled, the rest kept (R234). -/
def Flag.trapped (f : Flag) : Flag := { f with p := true, e := false }

/-- C of ADD: the carry out of bit 15 (R142). -/
def addCarry (a b : Word) : Bool := decide (65536 ≤ a.toNat + b.toNat)

/-- V of ADD: signed overflow (R142). -/
def addOverflow (a b : Word) : Bool :=
  a.getLsbD 15 == b.getLsbD 15 && (a + b).getLsbD 15 != a.getLsbD 15

/-- C of SUB and CMP: the borrow (R143). -/
def subBorrow (a b : Word) : Bool := decide (a.toNat < b.toNat)

/-- V of SUB and CMP: signed overflow (R143). -/
def subOverflow (a b : Word) : Bool :=
  a.getLsbD 15 != b.getLsbD 15 && (a - b).getLsbD 15 != a.getLsbD 15

/-- A drawn flag bit: the `k`-th draw (R144, R161). -/
def drawnBit (k : Nat) : Bool := (Config.draw 1 k).getLsbD 0

/-- The condition of each jump (R172). -/
def condHolds (cond : Cond) (f : Flag) : Bool :=
  match cond with
  | .z => f.z
  | .c => f.c
  | .m => f.s
  | .o => f.v
  | .gt => !(f.z || (f.s ^^ f.v))
  | .ge => !(f.s ^^ f.v)
  | .le => f.z || (f.s ^^ f.v)
  | .lt => f.s ^^ f.v
  | .nz => !f.z
  | .nc => !f.c
  | .nm => !f.s
  | .no => !f.v
  | .hi => !(f.z || f.c)
  | .ls => f.z || f.c
  | .always => true

end Sys2Proof.Machine
end

