-- ==== Sys2Proof/Machine/Ops.lean ====
section
/-! DEFINITION. The named operations over registers, memory and the MMU, the stack primitives, and taking an exception
(spec R22 to R24, R50 to R72, R200, R234). Everything that reads or writes state goes through these. -/

namespace Sys2Proof.Machine

/-! ## Updates of one piece of state -/

def State.setPc (s : State) (v : Word) : State := { s with pc := v }
def State.setFlag (s : State) (f : Flag) : State := { s with flag := f }
def State.setMem (s : State) (m : Memory) : State := { s with mem := m }
def State.setTlb (s : State) (t : Vector (BitVec 24) 8) : State := { s with tlb := t }
def State.setDev (s : State) (d : Devices) : State := { s with dev := d }
def State.setIplDetached (s : State) (b : Bool) : State := { s with iplDetached := b }
def State.setMmuEnabled (s : State) (b : Bool) : State := { s with mmuEnabled := b }
def State.setHalted (s : State) (b : Bool) : State := { s with halted := b }
def State.setPending (s : State) (p : Pending) : State := { s with pending := p }

/-- `n` further values have been drawn. -/
def State.advanceDraws (s : State) (n : Nat) : State := { s with draws := s.draws + n }

/-- Append one entry to the I/O trace (R198). -/
def State.appendTrace (s : State) (e : IoEvent) : State := { s with trace := s.trace ++ [e] }

/-- Record a memory violation's address and cause (R224, R225). -/
def State.recordViolation (s : State) (addr : Word) (cause : BitVec 2) : State :=
  { s with violationAddress := addr, violationAddressFresh := true, violationCause := cause, violationCauseFresh := true }

/-- Record a TLB miss's page (R226). -/
def State.recordFaultPage (s : State) (page : Byte) : State := { s with faultPage := page, faultPageFresh := true }

def State.violationAddressRead (s : State) : State := { s with violationAddressFresh := false }
def State.violationCauseRead (s : State) : State := { s with violationCauseFresh := false }
def State.faultPageRead (s : State) : State := { s with faultPageFresh := false }

/-! ## Registers (R22 to R24) -/

/-- The physical register a register number names in a mode (R23): number 13 is SSP when `privileged`, else USP. -/
def physOf (r : Reg) (privileged : Bool) : PhysReg :=
  match r with
  | .g0 => .g0 | .g1 => .g1 | .g2 => .g2 | .g3 => .g3 | .g4 => .g4 | .g5 => .g5 | .g6 => .g6 | .g7 => .g7
  | .g8 => .g8 | .g9 => .g9 | .g10 => .g10 | .g11 => .g11 | .fp => .fp
  | .sp => if privileged then .ssp else .usp
  | .usp => .usp
  | .flag => .flag

/-- The contents of a physical register; FLAG reads with bits 15..8 zero (R25). -/
def State.readPhys (s : State) (r : PhysReg) : Word :=
  match r with
  | .g0 => s.g0 | .g1 => s.g1 | .g2 => s.g2 | .g3 => s.g3 | .g4 => s.g4 | .g5 => s.g5 | .g6 => s.g6 | .g7 => s.g7
  | .g8 => s.g8 | .g9 => s.g9 | .g10 => s.g10 | .g11 => s.g11 | .fp => s.fp
  | .ssp => s.ssp
  | .usp => s.usp
  | .flag => s.flag.toWord

/-- Write a physical register; FLAG takes the bits its mode may change (R24). -/
def State.writePhys (s : State) (r : PhysReg) (v : Word) : State :=
  match r with
  | .g0 => { s with g0 := v } | .g1 => { s with g1 := v } | .g2 => { s with g2 := v } | .g3 => { s with g3 := v }
  | .g4 => { s with g4 := v } | .g5 => { s with g5 := v } | .g6 => { s with g6 := v } | .g7 => { s with g7 := v }
  | .g8 => { s with g8 := v } | .g9 => { s with g9 := v } | .g10 => { s with g10 := v } | .g11 => { s with g11 := v }
  | .fp => { s with fp := v }
  | .ssp => { s with ssp := v }
  | .usp => { s with usp := v }
  | .flag => { s with flag := s.flag.load v }

/-- `x[i]` (R23). -/
def State.readReg (s : State) (r : Reg) : Word := s.readPhys (physOf r s.flag.p)

/-- `x[i] <- v` (R24). -/
def State.writeReg (s : State) (r : Reg) (v : Word) : State := s.writePhys (physOf r s.flag.p) v

/-- SP: SSP or USP by FLAG.P now (R22). -/
def State.sp (s : State) : Word := s.readReg .sp

/-- Write SP (R22). -/
def State.setSp (s : State) (v : Word) : State := s.writeReg .sp v

/-! ## Physical memory (R57 to R59) -/

/-- What a byte of RAM that nothing has written reads as (R38: unspecified; DESIGN CHOICE, log 6). -/
def unlistedByte : Byte := 0

/-- The byte at an address. -/
def readMem : Memory → Nat → Byte
  | [], _ => unlistedByte
  | (a, b) :: m, x => if a = x then b else readMem m x

/-- Memory without an entry for an address. -/
def eraseCell (m : Memory) (x : Nat) : Memory := m.filter fun c => c.1 != x

/-- Memory with an entry put in its place by rising address. -/
def insertCell : Memory → Nat → Byte → Memory
  | [], x, v => [(x, v)]
  | (a, b) :: m, x, v => if x < a then (x, v) :: (a, b) :: m else (a, b) :: insertCell m x v

/-- Store a byte, keeping the canonical form: the value an unlisted address reads as is not listed. -/
def writeMem (m : Memory) (x : Nat) (v : Byte) : Memory :=
  if v = unlistedByte then eraseCell m x else insertCell (eraseCell m x) x v

/-- The addresses lie in `lo` to FFFFh and rise strictly, and no entry is what an unlisted address reads as. -/
def memWfFrom : Nat → Memory → Bool
  | _, [] => true
  | lo, (a, b) :: m => decide (lo ≤ a) && decide (a < 65536) && decide (b ≠ unlistedByte) && memWfFrom (a + 1) m

/-- The canonical form of memory. -/
def Memory.wf (m : Memory) : Bool := memWfFrom 0 m

/-- The range that shows the IPL ROM after reset, E000h to FFDFh (R57, R58). -/
def inIplRange (pa : Word) : Bool := decide (0xE000 ≤ pa.toNat ∧ pa.toNat < 0xFFE0)

/-- The IPL ROM covers this physical address now (R58). -/
def State.romShown (s : State) (pa : Word) : Bool := !s.iplDetached && inIplRange pa

/-- `Phys[pa]` read (R54, R57, R58). -/
def State.physByte (s : State) (pa : Word) : Byte :=
  if s.romShown pa then Config.iplRom pa else readMem s.mem pa.toNat

/-- The big-endian word at a physical address (R50). -/
def State.physWord (s : State) (pa : Word) : Word := wordOfBytes (s.physByte pa) (s.physByte (pa + 1))

/-- `Phys[pa] <- b` (R55). -/
def State.storeByte (s : State) (pa : Word) (b : Byte) : State := s.setMem (writeMem s.mem pa.toNat b)

/-- Store a word, high byte at the lower address (R50). -/
def State.storeWord (s : State) (pa : Word) (v : Word) : State :=
  (s.storeByte pa (hiByte v)).storeByte (pa + 1) (loByte v)

/-! ## The MMU (R65 to R70) -/

def tlbGet (t : Vector (BitVec 24) 8) (k : Fin 8) : BitVec 24 := t[k.val]
def tlbSet (t : Vector (BitVec 24) 8) (k : Fin 8) (e : BitVec 24) : Vector (BitVec 24) 8 := t.set k.val e

/-- PAGE, bits 23..16 (R66). -/
def tlbPage (e : BitVec 24) : Byte := e.extractLsb' 16 8

/-- V, bit 15 (R66). -/
def tlbValid (e : BitVec 24) : Bool := e.getLsbD 15

/-- FRAME, bits 7..0 (R66). -/
def tlbFrame (e : BitVec 24) : Byte := e.extractLsb' 0 8

/-- The permission bit an access kind needs: R = bit 10, W = bit 9, X = bit 8 (R66, R69). -/
def tlbAllows (e : BitVec 24) : AccessKind → Bool
  | .read => e.getLsbD 10
  | .write => e.getLsbD 9
  | .execute => e.getLsbD 8

/-- Set R (bit 12), and D (bit 11) on a write (R69, R70). -/
def tlbMark (e : BitVec 24) : AccessKind → BitVec 24
  | .read => e ||| 0x001000
  | .write => e ||| 0x001800
  | .execute => e ||| 0x001000

/-- The set M of R69: the valid entries for a page. -/
def tlbMatches (t : Vector (BitVec 24) 8) (page : Byte) : List (Fin 8) :=
  [0, 1, 2, 3, 4, 5, 6, 7].filter fun k => tlbValid (tlbGet t k) && tlbPage (tlbGet t k) == page

/-- Translation applies in user mode with the MMU on (R68). -/
def State.translates (s : State) : Bool := s.mmuEnabled && !s.flag.p

/-- `Translate(addr, kind)` (R68, R69). -/
def translate (addr : Word) (kind : AccessKind) (s : State) : Access Word :=
  if s.translates then
    match tlbMatches s.tlb (hiByte addr) with
    | [] => .raised (.tlbMiss (hiByte addr)) s
    | [k] =>
      if tlbAllows (tlbGet s.tlb k) kind then
        .done (wordOfBytes (tlbFrame (tlbGet s.tlb k)) (loByte addr))
          (s.setTlb (tlbSet s.tlb k (tlbMark (tlbGet s.tlb k) kind)))
      else .raised (.memVio addr) s
    | _ :: _ :: _ => .refused .tlbConflict
  else .done addr s

/-! ## The access primitives (R53 to R56) -/

/-- Read the word at an even virtual address: `MemRead(addr, 2)`, or `Fetch(addr)` with kind `execute` (R54, R56). -/
def memReadWord (kind : AccessKind) (addr : Word) (s : State) : Access Word :=
  if addr.getLsbD 0 then .raised (.badAddr addr) s
  else
    match translate addr kind s with
    | .done pa s1 => .done (s1.physWord pa) s1
    | .raised e s1 => .raised e s1
    | .refused r => .refused r

/-- `MemRead(addr, 1)`, zero-extended (R52, R54). -/
def memReadByte (addr : Word) (s : State) : Access Word :=
  match translate addr .read s with
  | .done pa s1 => .done ((s1.physByte pa).setWidth 16) s1
  | .raised e s1 => .raised e s1
  | .refused r => .refused r

/-- `MemWrite(addr, 2, v)` (R55). -/
def memWriteWord (addr v : Word) (s : State) : Access Unit :=
  if addr.getLsbD 0 then .raised (.badAddr addr) s
  else
    match translate addr .write s with
    | .done pa s1 => if s1.romShown pa then .refused .iplRomWrite else .done () (s1.storeWord pa v)
    | .raised e s1 => .raised e s1
    | .refused r => .refused r

/-- `MemWrite(addr, 1, v)`: bits 7..0 of `v` (R52, R55). -/
def memWriteByte (addr v : Word) (s : State) : Access Unit :=
  match translate addr .write s with
  | .done pa s1 => if s1.romShown pa then .refused .iplRomWrite else .done () (s1.storeByte pa (loByte v))
  | .raised e s1 => .raised e s1
  | .refused r => .refused r

/-! ## Other agents (R61, R73, R78) -/

/-- The physical addresses that the running microSD transfers may write: the buffer of each (R78). -/
def State.agentCells (s : State) : List Word :=
  s.dev.sdBuffers.flatMap fun base => (List.range Config.sdBlockBytes).map fun i => base + BitVec.ofNat 16 i

/-- Drawn bytes at the given addresses. -/
def agentsWrite (time : Nat) (m : Memory) : List Word → Memory
  | [] => m
  | a :: cells => agentsWrite time (writeMem m a.toNat (Config.sdByte time a)) cells

/-- What other agents may do between two memory accesses (R61, R73): while a microSD transfer runs, the bytes of its buffer
are draws (R78). Without one nothing changes. -/
def otherAgents (s : State) : State :=
  match s.dev.sdBuffers with
  | [] => s
  | _ :: _ => (s.setMem (agentsWrite s.draws s.mem s.agentCells)).advanceDraws 1

/-! ## The stack (R200) -/

/-- `[--SP] <- v` (R200). -/
def push (v : Word) (s : State) : Access Unit :=
  match memWriteWord (s.sp - 2) v s with
  | .done _ s1 => .done () (s1.setSp (s.sp - 2))
  | .raised e s1 => .raised e s1
  | .refused r => .refused r

/-- `[SP++]` (R200). -/
def pop (s : State) : Access Word :=
  match memReadWord .read s.sp s with
  | .done t s1 => .done t (s1.setSp (s.sp + 2))
  | .raised e s1 => .raised e s1
  | .refused r => .refused r

/-! ## Taking an exception (R221 to R239) -/

/-- A slot's row in the table of R232, counted from FFE0h. -/
def slotRow : VectorSlot → BitVec 4
  | .interrupt .timer0 => 0
  | .interrupt .timer1 => 1
  | .interrupt .rn4020Rx => 2
  | .interrupt .rn4020Tx => 3
  | .interrupt .ft232rlRx => 4
  | .interrupt .ft232rlTx => 5
  | .interrupt .tecRx => 6
  | .interrupt .tecTx => 7
  | .interrupt .microSd => 8
  | .interrupt .pio => 9
  | .tlbMiss => 10
  | .memoryViolation => 11
  | .zeroDivide => 12
  | .privilegeViolation => 13
  | .undefinedInstruction => 14
  | .supervisorCall => 15

/-- `VECTOR(event)`: the address FFE0h + 2k of the row the slot uses (R59, R232). -/
def vectorAddress (slot : VectorSlot) : Word := 0xFFE0 + 2 * (slotRow (Config.vectorPerm slot)).setWidth 16

/-- The vector-table slot of an exception; the two memory violations share one (R225, R232). -/
def excSlot : Exc → VectorSlot
  | .privilegeViolation => .privilegeViolation
  | .supervisorCall => .supervisorCall
  | .memVio _ => .memoryViolation
  | .badAddr _ => .memoryViolation
  | .tlbMiss _ => .tlbMiss
  | .undefinedInstruction => .undefinedInstruction
  | .zeroDivide => .zeroDivide

/-- The details an exception records (R224 to R226): cause 01b is memVio, 10b badAddr. -/
def recordDetails (e : Exc) (s : State) : State :=
  match e with
  | .memVio a => s.recordViolation a 1
  | .badAddr a => s.recordViolation a 2
  | .tlbMiss page => s.recordFaultPage page
  | .privilegeViolation => s
  | .supervisorCall => s
  | .undefinedInstruction => s
  | .zeroDivide => s

/-- The saved PC (R236): the instruction itself for a privilege violation, the next instruction for SVC, and for the
others what `EXC_SAVED_PC` says, `advanced` being the PC as the fetches made so far have advanced it. -/
def savedPc (e : Exc) (pc0 advanced : Word) : Word :=
  match e with
  | .privilegeViolation => pc0
  | .supervisorCall => advanced
  | .memVio _ => if Config.excSavesOwnPc .memoryViolation then pc0 else advanced
  | .badAddr _ => if Config.excSavesOwnPc .memoryViolation then pc0 else advanced
  | .tlbMiss _ => if Config.excSavesOwnPc .tlbMiss then pc0 else advanced
  | .undefinedInstruction => if Config.excSavesOwnPc .undefinedInstruction then pc0 else advanced
  | .zeroDivide => if Config.excSavesOwnPc .zeroDivide then pc0 else advanced

/-- Trap entry (R234): P set and E cleared, the saved PC and the old FLAG pushed on SSP, PC from the vector table. A push
that raises is a double fault (R238); a push into the attached IPL ROM is refused as any write there is (R55, R238). Other
agents may write before each of its three accesses (R61). -/
def trapEntry (slot : VectorSlot) (saved : Word) (s : State) : Result :=
  match push saved ((otherAgents s).setFlag s.flag.trapped) with
  | .raised _ _ => .fault .doubleFault
  | .refused r => .refused r
  | .done _ s2 =>
    match push s.flag.toWord (otherAgents s2) with
    | .raised _ _ => .fault .doubleFault
    | .refused r => .refused r
    | .done _ s3 => .next ((otherAgents s3).setPc ((otherAgents s3).physWord (vectorAddress slot)))

/-- `raise E(info)` (R234): record the details, then trap entry. -/
def takeException (e : Exc) (pc0 advanced : Word) (s : State) : Result :=
  trapEntry (excSlot e) (savedPc e pc0 advanced) (recordDetails e s)

/-- Go on with an access's value; take its exception; or stop with its refusal. -/
def complete {α : Type} (x : Access α) (pc0 advanced : Word) (k : α → State → Result) : Result :=
  match x with
  | .done v s => k v s
  | .raised e s => takeException e pc0 advanced s
  | .refused r => .refused r

/-- Return from a trap, the work of RETI (R205): FLAG then PC from the stack in use, committed when both reads succeeded.
Other agents may write between the two reads (R61). -/
def trapReturn (s : State) : Access Unit :=
  match memReadWord .read s.sp s with
  | .raised e s1 => .raised e s1
  | .refused r => .refused r
  | .done f s1 =>
    match memReadWord .read (s.sp + 2) (otherAgents s1) with
    | .raised e s2 => .raised e s2
    | .refused r => .refused r
    | .done t s2 => .done () (((s2.setSp (s.sp + 4)).setFlag (s.flag.load f)).setPc t)

/-- The reset event (R280): every piece of state as after reset, RN4020-RAM kept (R38). The spec does not say what a reset
does to the I/O trace, to the draws and to a microSD transfer that runs: the model keeps the trace, goes on with the draw
counter, so that draws after a reset are fresh, and keeps the transfers' buffers (DESIGN CHOICE, log 39). -/
def resetEvent (s : State) : State :=
  { State.reset with
    dev := { State.reset.dev with rn4020Ram := s.dev.rn4020Ram, sdBuffers := s.dev.sdBuffers }
    trace := s.trace
    draws := s.draws }

end Sys2Proof.Machine
end

