-- ==== Sys2Proof/Machine/Operands.lean ====
section
/-! DEFINITION. Operand addresses and operand values of the eight addressing modes (spec R111 to R120), and how many bytes
an instruction with a given operand occupies (R84). -/

namespace Sys2Proof.Machine

/-- The displacement of the FP-relative mode as a word: an ill-formed Dsp4 is taken modulo 65536 (R116). -/
def fpRltAddress (dsp4 : Int) (s : State) : Word := BitVec.ofInt 16 dsp4 + s.fp

/-- The operand value `opv` (R111). -/
def readOperand (o : Operand) (s : State) : Access Word :=
  match o with
  | .drct dsp => memReadWord .read dsp s
  | .index dsp rx => memReadWord .read (dsp + s.readReg rx) s
  | .imm v => .done v s
  | .fpRlt dsp4 => memReadWord .read (fpRltAddress dsp4 s) s
  | .reg rs => .done (s.readReg rs) s
  | .imm4 v => .done (BitVec.ofInt 16 v) s
  | .indr rx => memReadWord .read (s.readReg rx) s
  | .bIndr rx => memReadByte (s.readReg rx) s

/-- The operand address `ea` of a place in memory (R111). -/
def placeAddress (p : Place) (s : State) : Word :=
  match p with
  | .drct dsp => dsp
  | .index dsp rx => dsp + s.readReg rx
  | .fpRlt dsp4 => fpRltAddress dsp4 s
  | .indr rx => s.readReg rx
  | .bIndr rx => s.readReg rx

/-- Store to a place: a byte in mode B Indr, else a word (R133). -/
def writePlace (p : Place) (v : Word) (s : State) : Access Unit :=
  match p with
  | .drct _ => memWriteWord (placeAddress p s) v s
  | .index _ _ => memWriteWord (placeAddress p s) v s
  | .fpRlt _ => memWriteWord (placeAddress p s) v s
  | .indr _ => memWriteWord (placeAddress p s) v s
  | .bIndr _ => memWriteByte (placeAddress p s) v s

/-- The operand address of a jump or CALL, which is its target (R171). -/
def targetAddress (t : Target) (s : State) : Word :=
  match t with
  | .drct dsp => dsp
  | .index dsp rx => dsp + s.readReg rx

/-- The port address of IN and OUT (R195, R199). -/
def portAddress (p : Port) (s : State) : Word :=
  match p with
  | .drct dsp => dsp
  | .indr rx => s.readReg rx

/-- The bytes of an instruction with this operand (R84). -/
def operandSize : Operand → Word
  | .drct _ => 4
  | .index _ _ => 4
  | .imm _ => 4
  | .fpRlt _ => 2
  | .reg _ => 2
  | .imm4 _ => 2
  | .indr _ => 2
  | .bIndr _ => 2

/-- The bytes of an ST with this place (R84). -/
def placeSize : Place → Word
  | .drct _ => 4
  | .index _ _ => 4
  | .fpRlt _ => 2
  | .indr _ => 2
  | .bIndr _ => 2

/-- The bytes of an IN or OUT with this operand (R84). -/
def portSize : Port → Word
  | .drct _ => 4
  | .indr _ => 2

end Sys2Proof.Machine
end

