-- ==== Sys2Proof/Machine/ArithLogic.lean ====
section
/-! DEFINITION. The ten arithmetic and logic instructions (spec 42_arith_logic.md), and the shape they share with the
shifts (R140, R160). -/

namespace Sys2Proof.Machine

/-- A flag-changing instruction's result with its C and V, and how many values it draws (R140). -/
structure Computed where
  r : Word
  c : Bool
  v : Bool
  drawn : Nat
  deriving DecidableEq, Repr

/-- A result whose C and V are not valid: two draws (R144). -/
def withDrawnFlags (r : Word) (k : Nat) : Computed := { r := r, c := drawnBit k, v := drawnBit (k + 1), drawn := 2 }

/-- Write the flags (R141 to R144), advance the pc. -/
def commitFlags (x : Computed) (next : Word) (s : State) : State :=
  ((s.setFlag (s.flag.after x.r x.c x.v)).advanceDraws x.drawn).setPc next

/-- Write the flags, then Rd, advance the pc (R112, R140). -/
def commitResult (rd : Reg) (x : Computed) (next : Word) (s : State) : State :=
  ((s.setFlag (s.flag.after x.r x.c x.v)).writeReg rd x.r |>.advanceDraws x.drawn).setPc next

/-- The shape of a flag-changing instruction that writes Rd (R140, R160): `f` gets `x[Rd]`, the operand value and the
index of the next draw. Rd = FLAG is refused. -/
def execBinary (f : Word → Word → Nat → Computed) (rd : Reg) (o : Operand) (s : State) : Result :=
  if rd = .flag then .refused .flagDestination
  else
    complete (readOperand o s) s.pc (s.pc + operandSize o) fun b s1 =>
      .next (commitResult rd (f (s.readReg rd) b s.draws) (s.pc + operandSize o) s1)

/-- The same with a zero operand raising ZeroDivide (R153). -/
def execDivision (f : Word → Word → Nat → Computed) (rd : Reg) (o : Operand) (s : State) : Result :=
  if rd = .flag then .refused .flagDestination
  else
    complete (readOperand o s) s.pc (s.pc + operandSize o) fun b s1 =>
      if b = 0 then takeException .zeroDivide s.pc (s.pc + operandSize o) s1
      else .next (commitResult rd (f (s.readReg rd) b s.draws) (s.pc + operandSize o) s1)

/-! ## The functions (R145 to R155) -/

/-- ADD (R142, R145). -/
def computeAdd (a b : Word) (_k : Nat) : Computed :=
  { r := a + b, c := addCarry a b, v := addOverflow a b, drawn := 0 }

/-- SUB and CMP (R143, R146, R147). -/
def computeSub (a b : Word) (_k : Nat) : Computed :=
  { r := a - b, c := subBorrow a b, v := subOverflow a b, drawn := 0 }

/-- AND (R148). -/
def computeAnd (a b : Word) (k : Nat) : Computed := withDrawnFlags (a &&& b) k

/-- OR (R149). -/
def computeOr (a b : Word) (k : Nat) : Computed := withDrawnFlags (a ||| b) k

/-- XOR (R150). -/
def computeXor (a b : Word) (k : Nat) : Computed := withDrawnFlags (a ^^^ b) k

/-- ADDS: the operand doubled (R151). -/
def computeAdds (a b : Word) (k : Nat) : Computed := withDrawnFlags (a + 2 * b) k

/-- MUL: the low 16 bits of the product (R152). -/
def computeMul (a b : Word) (k : Nat) : Computed := withDrawnFlags (a * b) k

/-- Both operands are non-negative in either reading (R153). -/
def divisionCommon (a b : Word) : Bool := decide (a.toNat ≤ 0x7FFF ∧ b.toNat ≤ 0x7FFF)

/-- Quotient and remainder of a non-zero divisor (R153): the common domain by floor, the rest open. -/
def divmod (a b : Word) : Word × Word :=
  if divisionCommon a b then (BitVec.ofNat 16 (a.toNat / b.toNat), BitVec.ofNat 16 (a.toNat % b.toNat))
  else Config.divmod a b

/-- DIV (R154). -/
def computeDiv (a b : Word) (k : Nat) : Computed := withDrawnFlags (divmod a b).1 k

/-- MOD (R155). -/
def computeMod (a b : Word) (k : Nat) : Computed := withDrawnFlags (divmod a b).2 k

/-! ## The instructions -/

/-- ADD (R145). -/
def execAdd (rd : Reg) (o : Operand) (s : State) : Result := execBinary computeAdd rd o s

/-- SUB (R146). -/
def execSub (rd : Reg) (o : Operand) (s : State) : Result := execBinary computeSub rd o s

/-- CMP (R147): SUB's flags, no register written; Rd = FLAG is allowed. -/
def execCmp (rd : Reg) (o : Operand) (s : State) : Result :=
  complete (readOperand o s) s.pc (s.pc + operandSize o) fun b s1 =>
    .next (commitFlags (computeSub (s.readReg rd) b s.draws) (s.pc + operandSize o) s1)

/-- AND (R148). -/
def execAnd (rd : Reg) (o : Operand) (s : State) : Result := execBinary computeAnd rd o s

/-- OR (R149). -/
def execOr (rd : Reg) (o : Operand) (s : State) : Result := execBinary computeOr rd o s

/-- XOR (R150). -/
def execXor (rd : Reg) (o : Operand) (s : State) : Result := execBinary computeXor rd o s

/-- ADDS (R151). -/
def execAdds (rd : Reg) (o : Operand) (s : State) : Result := execBinary computeAdds rd o s

/-- MUL (R152). -/
def execMul (rd : Reg) (o : Operand) (s : State) : Result := execBinary computeMul rd o s

/-- DIV (R154). -/
def execDiv (rd : Reg) (o : Operand) (s : State) : Result := execDivision computeDiv rd o s

/-- MOD (R155). -/
def execMod (rd : Reg) (o : Operand) (s : State) : Result := execDivision computeMod rd o s

/-- ADD, mode Drct (R145, R113). -/
def execAddDrct (rd : Reg) (dsp : Word) (s : State) : Result := execAdd rd (.drct dsp) s

/-- ADD, mode Index (R145, R114). -/
def execAddIndex (rd : Reg) (dsp : Word) (rx : Reg) (s : State) : Result := execAdd rd (.index dsp rx) s

/-- ADD, mode Imm (R145, R115). -/
def execAddImm (rd : Reg) (imm : Word) (s : State) : Result := execAdd rd (.imm imm) s

/-- ADD, mode FP Rlt (R145, R116). -/
def execAddFpRlt (rd : Reg) (dsp4 : Int) (s : State) : Result := execAdd rd (.fpRlt dsp4) s

/-- ADD, mode Reg (R145, R117). -/
def execAddReg (rd : Reg) (rs : Reg) (s : State) : Result := execAdd rd (.reg rs) s

/-- ADD, mode Imm4 (R145, R118). -/
def execAddImm4 (rd : Reg) (imm4 : Int) (s : State) : Result := execAdd rd (.imm4 imm4) s

/-- ADD, mode Indr (R145, R119). -/
def execAddIndr (rd : Reg) (rx : Reg) (s : State) : Result := execAdd rd (.indr rx) s

/-- ADD, mode B Indr (R145, R120). -/
def execAddBIndr (rd : Reg) (rx : Reg) (s : State) : Result := execAdd rd (.bIndr rx) s

/-- SUB, mode Drct (R146, R113). -/
def execSubDrct (rd : Reg) (dsp : Word) (s : State) : Result := execSub rd (.drct dsp) s

/-- SUB, mode Index (R146, R114). -/
def execSubIndex (rd : Reg) (dsp : Word) (rx : Reg) (s : State) : Result := execSub rd (.index dsp rx) s

/-- SUB, mode Imm (R146, R115). -/
def execSubImm (rd : Reg) (imm : Word) (s : State) : Result := execSub rd (.imm imm) s

/-- SUB, mode FP Rlt (R146, R116). -/
def execSubFpRlt (rd : Reg) (dsp4 : Int) (s : State) : Result := execSub rd (.fpRlt dsp4) s

/-- SUB, mode Reg (R146, R117). -/
def execSubReg (rd : Reg) (rs : Reg) (s : State) : Result := execSub rd (.reg rs) s

/-- SUB, mode Imm4 (R146, R118). -/
def execSubImm4 (rd : Reg) (imm4 : Int) (s : State) : Result := execSub rd (.imm4 imm4) s

/-- SUB, mode Indr (R146, R119). -/
def execSubIndr (rd : Reg) (rx : Reg) (s : State) : Result := execSub rd (.indr rx) s

/-- SUB, mode B Indr (R146, R120). -/
def execSubBIndr (rd : Reg) (rx : Reg) (s : State) : Result := execSub rd (.bIndr rx) s

/-- CMP, mode Drct (R147, R113). -/
def execCmpDrct (rd : Reg) (dsp : Word) (s : State) : Result := execCmp rd (.drct dsp) s

/-- CMP, mode Index (R147, R114). -/
def execCmpIndex (rd : Reg) (dsp : Word) (rx : Reg) (s : State) : Result := execCmp rd (.index dsp rx) s

/-- CMP, mode Imm (R147, R115). -/
def execCmpImm (rd : Reg) (imm : Word) (s : State) : Result := execCmp rd (.imm imm) s

/-- CMP, mode FP Rlt (R147, R116). -/
def execCmpFpRlt (rd : Reg) (dsp4 : Int) (s : State) : Result := execCmp rd (.fpRlt dsp4) s

/-- CMP, mode Reg (R147, R117). -/
def execCmpReg (rd : Reg) (rs : Reg) (s : State) : Result := execCmp rd (.reg rs) s

/-- CMP, mode Imm4 (R147, R118). -/
def execCmpImm4 (rd : Reg) (imm4 : Int) (s : State) : Result := execCmp rd (.imm4 imm4) s

/-- CMP, mode Indr (R147, R119). -/
def execCmpIndr (rd : Reg) (rx : Reg) (s : State) : Result := execCmp rd (.indr rx) s

/-- CMP, mode B Indr (R147, R120). -/
def execCmpBIndr (rd : Reg) (rx : Reg) (s : State) : Result := execCmp rd (.bIndr rx) s

/-- AND, mode Drct (R148, R113). -/
def execAndDrct (rd : Reg) (dsp : Word) (s : State) : Result := execAnd rd (.drct dsp) s

/-- AND, mode Index (R148, R114). -/
def execAndIndex (rd : Reg) (dsp : Word) (rx : Reg) (s : State) : Result := execAnd rd (.index dsp rx) s

/-- AND, mode Imm (R148, R115). -/
def execAndImm (rd : Reg) (imm : Word) (s : State) : Result := execAnd rd (.imm imm) s

/-- AND, mode FP Rlt (R148, R116). -/
def execAndFpRlt (rd : Reg) (dsp4 : Int) (s : State) : Result := execAnd rd (.fpRlt dsp4) s

/-- AND, mode Reg (R148, R117). -/
def execAndReg (rd : Reg) (rs : Reg) (s : State) : Result := execAnd rd (.reg rs) s

/-- AND, mode Imm4 (R148, R118). -/
def execAndImm4 (rd : Reg) (imm4 : Int) (s : State) : Result := execAnd rd (.imm4 imm4) s

/-- AND, mode Indr (R148, R119). -/
def execAndIndr (rd : Reg) (rx : Reg) (s : State) : Result := execAnd rd (.indr rx) s

/-- AND, mode B Indr (R148, R120). -/
def execAndBIndr (rd : Reg) (rx : Reg) (s : State) : Result := execAnd rd (.bIndr rx) s

/-- OR, mode Drct (R149, R113). -/
def execOrDrct (rd : Reg) (dsp : Word) (s : State) : Result := execOr rd (.drct dsp) s

/-- OR, mode Index (R149, R114). -/
def execOrIndex (rd : Reg) (dsp : Word) (rx : Reg) (s : State) : Result := execOr rd (.index dsp rx) s

/-- OR, mode Imm (R149, R115). -/
def execOrImm (rd : Reg) (imm : Word) (s : State) : Result := execOr rd (.imm imm) s

/-- OR, mode FP Rlt (R149, R116). -/
def execOrFpRlt (rd : Reg) (dsp4 : Int) (s : State) : Result := execOr rd (.fpRlt dsp4) s

/-- OR, mode Reg (R149, R117). -/
def execOrReg (rd : Reg) (rs : Reg) (s : State) : Result := execOr rd (.reg rs) s

/-- OR, mode Imm4 (R149, R118). -/
def execOrImm4 (rd : Reg) (imm4 : Int) (s : State) : Result := execOr rd (.imm4 imm4) s

/-- OR, mode Indr (R149, R119). -/
def execOrIndr (rd : Reg) (rx : Reg) (s : State) : Result := execOr rd (.indr rx) s

/-- OR, mode B Indr (R149, R120). -/
def execOrBIndr (rd : Reg) (rx : Reg) (s : State) : Result := execOr rd (.bIndr rx) s

/-- XOR, mode Drct (R150, R113). -/
def execXorDrct (rd : Reg) (dsp : Word) (s : State) : Result := execXor rd (.drct dsp) s

/-- XOR, mode Index (R150, R114). -/
def execXorIndex (rd : Reg) (dsp : Word) (rx : Reg) (s : State) : Result := execXor rd (.index dsp rx) s

/-- XOR, mode Imm (R150, R115). -/
def execXorImm (rd : Reg) (imm : Word) (s : State) : Result := execXor rd (.imm imm) s

/-- XOR, mode FP Rlt (R150, R116). -/
def execXorFpRlt (rd : Reg) (dsp4 : Int) (s : State) : Result := execXor rd (.fpRlt dsp4) s

/-- XOR, mode Reg (R150, R117). -/
def execXorReg (rd : Reg) (rs : Reg) (s : State) : Result := execXor rd (.reg rs) s

/-- XOR, mode Imm4 (R150, R118). -/
def execXorImm4 (rd : Reg) (imm4 : Int) (s : State) : Result := execXor rd (.imm4 imm4) s

/-- XOR, mode Indr (R150, R119). -/
def execXorIndr (rd : Reg) (rx : Reg) (s : State) : Result := execXor rd (.indr rx) s

/-- XOR, mode B Indr (R150, R120). -/
def execXorBIndr (rd : Reg) (rx : Reg) (s : State) : Result := execXor rd (.bIndr rx) s

/-- ADDS, mode Drct (R151, R113). -/
def execAddsDrct (rd : Reg) (dsp : Word) (s : State) : Result := execAdds rd (.drct dsp) s

/-- ADDS, mode Index (R151, R114). -/
def execAddsIndex (rd : Reg) (dsp : Word) (rx : Reg) (s : State) : Result := execAdds rd (.index dsp rx) s

/-- ADDS, mode Imm (R151, R115). -/
def execAddsImm (rd : Reg) (imm : Word) (s : State) : Result := execAdds rd (.imm imm) s

/-- ADDS, mode FP Rlt (R151, R116). -/
def execAddsFpRlt (rd : Reg) (dsp4 : Int) (s : State) : Result := execAdds rd (.fpRlt dsp4) s

/-- ADDS, mode Reg (R151, R117). -/
def execAddsReg (rd : Reg) (rs : Reg) (s : State) : Result := execAdds rd (.reg rs) s

/-- ADDS, mode Imm4 (R151, R118). -/
def execAddsImm4 (rd : Reg) (imm4 : Int) (s : State) : Result := execAdds rd (.imm4 imm4) s

/-- ADDS, mode Indr (R151, R119). -/
def execAddsIndr (rd : Reg) (rx : Reg) (s : State) : Result := execAdds rd (.indr rx) s

/-- ADDS, mode B Indr (R151, R120). -/
def execAddsBIndr (rd : Reg) (rx : Reg) (s : State) : Result := execAdds rd (.bIndr rx) s

/-- MUL, mode Drct (R152, R113). -/
def execMulDrct (rd : Reg) (dsp : Word) (s : State) : Result := execMul rd (.drct dsp) s

/-- MUL, mode Index (R152, R114). -/
def execMulIndex (rd : Reg) (dsp : Word) (rx : Reg) (s : State) : Result := execMul rd (.index dsp rx) s

/-- MUL, mode Imm (R152, R115). -/
def execMulImm (rd : Reg) (imm : Word) (s : State) : Result := execMul rd (.imm imm) s

/-- MUL, mode FP Rlt (R152, R116). -/
def execMulFpRlt (rd : Reg) (dsp4 : Int) (s : State) : Result := execMul rd (.fpRlt dsp4) s

/-- MUL, mode Reg (R152, R117). -/
def execMulReg (rd : Reg) (rs : Reg) (s : State) : Result := execMul rd (.reg rs) s

/-- MUL, mode Imm4 (R152, R118). -/
def execMulImm4 (rd : Reg) (imm4 : Int) (s : State) : Result := execMul rd (.imm4 imm4) s

/-- MUL, mode Indr (R152, R119). -/
def execMulIndr (rd : Reg) (rx : Reg) (s : State) : Result := execMul rd (.indr rx) s

/-- MUL, mode B Indr (R152, R120). -/
def execMulBIndr (rd : Reg) (rx : Reg) (s : State) : Result := execMul rd (.bIndr rx) s

/-- DIV, mode Drct (R154, R113). -/
def execDivDrct (rd : Reg) (dsp : Word) (s : State) : Result := execDiv rd (.drct dsp) s

/-- DIV, mode Index (R154, R114). -/
def execDivIndex (rd : Reg) (dsp : Word) (rx : Reg) (s : State) : Result := execDiv rd (.index dsp rx) s

/-- DIV, mode Imm (R154, R115). -/
def execDivImm (rd : Reg) (imm : Word) (s : State) : Result := execDiv rd (.imm imm) s

/-- DIV, mode FP Rlt (R154, R116). -/
def execDivFpRlt (rd : Reg) (dsp4 : Int) (s : State) : Result := execDiv rd (.fpRlt dsp4) s

/-- DIV, mode Reg (R154, R117). -/
def execDivReg (rd : Reg) (rs : Reg) (s : State) : Result := execDiv rd (.reg rs) s

/-- DIV, mode Imm4 (R154, R118). -/
def execDivImm4 (rd : Reg) (imm4 : Int) (s : State) : Result := execDiv rd (.imm4 imm4) s

/-- DIV, mode Indr (R154, R119). -/
def execDivIndr (rd : Reg) (rx : Reg) (s : State) : Result := execDiv rd (.indr rx) s

/-- DIV, mode B Indr (R154, R120). -/
def execDivBIndr (rd : Reg) (rx : Reg) (s : State) : Result := execDiv rd (.bIndr rx) s

/-- MOD, mode Drct (R155, R113). -/
def execModDrct (rd : Reg) (dsp : Word) (s : State) : Result := execMod rd (.drct dsp) s

/-- MOD, mode Index (R155, R114). -/
def execModIndex (rd : Reg) (dsp : Word) (rx : Reg) (s : State) : Result := execMod rd (.index dsp rx) s

/-- MOD, mode Imm (R155, R115). -/
def execModImm (rd : Reg) (imm : Word) (s : State) : Result := execMod rd (.imm imm) s

/-- MOD, mode FP Rlt (R155, R116). -/
def execModFpRlt (rd : Reg) (dsp4 : Int) (s : State) : Result := execMod rd (.fpRlt dsp4) s

/-- MOD, mode Reg (R155, R117). -/
def execModReg (rd : Reg) (rs : Reg) (s : State) : Result := execMod rd (.reg rs) s

/-- MOD, mode Imm4 (R155, R118). -/
def execModImm4 (rd : Reg) (imm4 : Int) (s : State) : Result := execMod rd (.imm4 imm4) s

/-- MOD, mode Indr (R155, R119). -/
def execModIndr (rd : Reg) (rx : Reg) (s : State) : Result := execMod rd (.indr rx) s

/-- MOD, mode B Indr (R155, R120). -/
def execModBIndr (rd : Reg) (rx : Reg) (s : State) : Result := execMod rd (.bIndr rx) s

end Sys2Proof.Machine
end

