-- ==== Sys2Proof/Machine/Ports.lean ====
section
/-! DEFINITION. The I/O space (spec 45_io.md, 60_exceptions.md section 7) and what the devices do between instructions
(R78, R241, R263). -/

namespace Sys2Proof.Machine

/-! ## The rows whose addresses are lost (R260, R264, R266) -/

/-- The `k`-th unnamed row: ten in 18h to 2Eh, then 38h to 7Eh (R260, N24). -/
def lostRow (k : Fin 46) : Word :=
  if k.val < 3 then 0x18 + 2 * BitVec.ofNat 16 k.val
  else if k.val < 9 then 0x1A + 2 * BitVec.ofNat 16 k.val
  else if k.val = 9 then 0x2E
  else 0x24 + 2 * BitVec.ofNat 16 k.val

/-- One of the unnamed rows of 18h to 2Eh. -/
def lostSerialRow (k : Fin 10) : Word := lostRow (k.castLE (by decide))

/-- The address is one of those rows. -/
def isLostRow (a : Nat) : Bool :=
  decide ((0x18 ≤ a ∧ a ≤ 0x2E ∧ a ≠ 0x1E ∧ a ≠ 0x2C) ∨ (0x38 ≤ a ∧ a ≤ 0x7E))

/-- The row of the FT232RL's Stat and Ctrl registers; the unit's other row is its data register's (R264, log 40). -/
def ft232rlCtrlRow : Word := if Config.ft232rlCtrlFirst then 0x08 else 0x0A

/-- The row of the TeC unit's Stat and Ctrl registers; the unit's other row is its data register's (R264, log 40). -/
def tecCtrlRow : Word := if Config.tecCtrlFirst then 0x0C else 0x0E

/-- The rows of the RN4020's two registers, of 出力ポートHi and of RN4020-RAM (R264, R266, log 40). -/
def rn4020DataRow : Word := lostSerialRow Config.rn4020DataRow
def rn4020CtrlRow : Word := lostSerialRow Config.rn4020CtrlRow
def portHiRow : Word := lostRow Config.portHiRow
def rn4020RamRow : Word := lostRow Config.rn4020RamRow

/-! ## Reading a port (R196) -/

/-- The bits a row's printed pattern leaves a device: a bit printed 0, and the high byte of a "00H" row, read 0 (R196, R259,
R260, R265 to R269). -/
def rowReadMask (a : Nat) : Word :=
  if a = 0x10 then 0x00C1
  else if a = 0x1E then 0x0007
  else if a = 0x2C then 0x000F
  else if a = 0x32 ∨ a = 0x34 then 0
  else if a = 0xFC then 0x001F
  else if a = 0xFE then 0x000F
  else if 0x08 ≤ a ∧ a ≤ 0x0E ∨ 0x18 ≤ a ∧ a ≤ 0x2E ∨ 0x30 ≤ a ∧ a ≤ 0x38 then 0x00FF
  else 0xFFFF

/-- The row holds a serial unit's Stat register, TR00 0000 (R264). -/
def isStatRow (a : Word) : Bool := a == ft232rlCtrlRow || a == tecCtrlRow || a == rn4020CtrlRow

/-- The bits a device can present at a port: its row's, and those of the patterns TR00 0000 (R264) and M000 VVVV (R266)
where that register is at the row. -/
def portReadMask (a : Word) : Word :=
  rowReadMask a.toNat &&& (if isStatRow a then 0x00C0 else 0xFFFF) &&& (if a = portHiRow then 0x008F else 0xFFFF)

/-- A port of the TLB: 80h to 9Eh (R67). -/
def isTlbPort (a : Word) : Bool := decide (0x80 ≤ a.toNat ∧ a.toNat < 0xA0)

/-- The entry a TLB port belongs to (R67). -/
def tlbPortIndex (a : Word) : Fin 8 := (a.extractLsb' 2 3).toFin

/-- The port is the entry's low half, `82h + 4k` (R67). -/
def tlbPortIsLow (a : Word) : Bool := a.getLsbD 1

/-- What a TLB port reads: PAGE zero-extended, or bits 15..0 with bits 14 and 13 drawn (R67, R196). -/
def tlbPortRead (a : Word) (s : State) : Access Word :=
  let e := tlbGet s.tlb (tlbPortIndex a)
  if tlbPortIsLow a then
    .done ((e.extractLsb' 0 16 &&& 0x9FFF) ||| ((Config.draw 2 s.draws).setWidth 16 <<< 13)) (s.advanceDraws 1)
  else .done ((tlbPage e).setWidth 16) s

/-- A2h: the violation address between a violation and the first IN, else a draw (R71). -/
def violationAddressPortRead (s : State) : Access Word :=
  .done (if s.violationAddressFresh then s.violationAddress else Config.draw 16 s.draws)
    (s.violationAddressRead.advanceDraws 1)

/-- A4h: fourteen drawn bits and the cause, or sixteen drawn bits outside the register's window (R71, R196). -/
def violationCausePortRead (s : State) : Access Word :=
  .done (if s.violationCauseFresh then (Config.draw 14 s.draws ++ s.violationCause : BitVec (14 + 2)) else Config.draw 16 s.draws)
    (s.violationCauseRead.advanceDraws 1)

/-- A6h: eight drawn bits and the page, or sixteen drawn bits outside the register's window (R71, R196). -/
def faultPagePortRead (s : State) : Access Word :=
  .done (if s.faultPageFresh then (Config.draw 8 s.draws ++ s.faultPage : BitVec (8 + 8)) else Config.draw 16 s.draws)
    (s.faultPageRead.advanceDraws 1)

/-- A device port: what the oracle presents, within the port's printed bits (R196). -/
def devicePortValue (a : Word) (s : State) : Word :=
  Config.ioOracle s.trace s.draws a &&& portReadMask a

/-- The devices after an IN that presented `v`: a timer's current-value or flag register is what was presented (R35, R263);
reading IDLE (bit 7 of 10h) as 1 is how software sees that the microSD transfers have completed (R60, R78, R265). -/
def devicesAfterIn (a v : Word) (d : Devices) : Devices :=
  if a = 0x00 then { d with timer0 := { d.timer0 with current := v } }
  else if a = 0x02 then { d with timer0 := { d.timer0 with flag := v } }
  else if a = 0x04 then { d with timer1 := { d.timer1 with current := v } }
  else if a = 0x06 then { d with timer1 := { d.timer1 with flag := v } }
  else if a = 0x10 ∧ v.getLsbD 7 = true then { d with sdBuffers := [] }
  else d

/-- Reading a device port (R196): the oracle at this moment, and what the reading does to the devices. -/
def devicePortRead (a : Word) (s : State) : Access Word :=
  .done (devicePortValue a s) (s.setDev (devicesAfterIn a (devicePortValue a s) s.dev))

/-- The register behind an even port address (R196). -/
def portRead (a : Word) (s : State) : Access Word :=
  if isTlbPort a then tlbPortRead a s
  else if a = 0xA2 then violationAddressPortRead s
  else if a = 0xA4 then violationCausePortRead s
  else if a = 0xA6 then faultPagePortRead s
  else devicePortRead a s

/-- `IoRead(a)` (R196). -/
def ioRead (a : Word) (s : State) : Access Word :=
  if 0xFF < a.toNat then .refused .ioAddressOutOfRange
  else if a.getLsbD 0 then .refused .ioAddressOdd
  else portRead a (s.appendTrace (.input a))

/-! ## Writing a port (R197) -/

/-- The TLB after an OUT to one of its ports: bits 14 and 13 of an entry are ignored (R66, R67, R197). -/
def tlbAfterOut (a v : Word) (t : Vector (BitVec 24) 8) : Vector (BitVec 24) 8 :=
  let k := tlbPortIndex a
  let e := tlbGet t k
  if tlbPortIsLow a then tlbSet t k (tlbPage e ++ (v &&& 0x9FFF) : BitVec (8 + 16))
  else tlbSet t k (loByte v ++ e.extractLsb' 0 16 : BitVec (8 + 16))

/-- A serial unit after an OUT to one of its two rows: bits 7 and 6 of Ctrl, or the byte to send (R264). -/
def serialAfterOut (isCtrl : Bool) (v : Word) (u : Serial) : Serial :=
  if isCtrl then { u with ctrl := loByte v &&& 0xC0 } else { u with data := loByte v }

/-- The registers of the unnamed rows after an OUT to one of them: each takes the bits its pattern prints if its row is
this one (R264, R266); any such OUT counts as a possible enabling of the PIO (R240, R241). -/
def lostRowAfterOut (a v : Word) (d : Devices) : Devices :=
  { d with
    serialRn4020 :=
      { data := if a = rn4020DataRow then loByte v else d.serialRn4020.data
        ctrl := if a = rn4020CtrlRow then loByte v &&& 0xC0 else d.serialRn4020.ctrl }
    portHi := if a = portHiRow then loByte v &&& 0x8F else d.portHi
    rn4020Ram := if a = rn4020RamRow then loByte v else d.rn4020Ram
    pioIrq := true }

/-- uSD-Ctrl takes its four bits; READ or WRITE starts a transfer with the buffer at uSD-MemAddr (R78, R265). -/
def sdCtrlAfterOut (v : Word) (d : Devices) : Devices :=
  { d with
    sdCtrl := loByte v &&& 0x87
    sdBuffers := if v.getLsbD 1 || v.getLsbD 0 then d.sdMemAddr :: d.sdBuffers else d.sdBuffers }

/-- uSD-MemAddr takes the value. Whether a running transfer goes on in its buffer or in the new one is not said, so both
are its buffers then (R78; log 17). -/
def sdMemAddrAfterOut (v : Word) (d : Devices) : Devices :=
  { d with sdMemAddr := v, sdBuffers := if d.sdBuffers.isEmpty then [] else v :: d.sdBuffers }

/-- The devices after an OUT: the register at the row takes the bits its pattern prints (R262, R264 to R269). -/
def devicesAfterOut (a v : Word) (d : Devices) : Devices :=
  if a = 0x00 then { d with timer0 := { d.timer0 with period := v } }
  else if a = 0x02 then { d with timer0 := { d.timer0 with control := v &&& 0x8001 } }
  else if a = 0x04 then { d with timer1 := { d.timer1 with period := v } }
  else if a = 0x06 then { d with timer1 := { d.timer1 with control := v &&& 0x8001 } }
  else if a = 0x08 ∨ a = 0x0A then { d with serialFt232rl := serialAfterOut (a == ft232rlCtrlRow) v d.serialFt232rl }
  else if a = 0x0C ∨ a = 0x0E then { d with serialTec := serialAfterOut (a == tecCtrlRow) v d.serialTec }
  else if a = 0x10 then sdCtrlAfterOut v d
  else if a = 0x12 then sdMemAddrAfterOut v d
  else if a = 0x14 then { d with sdBlkAddrH := v }
  else if a = 0x16 then { d with sdBlkAddrL := v }
  else if a = 0x1E then { d with boardMode := v.extractLsb' 0 3 }
  else if a = 0x2C then { d with rn4020Cmd := v.extractLsb' 0 4 }
  else if a = 0x32 then { d with tecDataSw := loByte v }
  else if a = 0x34 then { d with tecFuncSw := loByte v }
  else if a = 0x36 then { d with tecCtrl := loByte v &&& 0x87 }
  else if a = 0xF8 then { d with consoleData := v }
  else if isLostRow a.toNat then lostRowAfterOut a v d
  else d

/-- The register behind an even port address takes `v` (R197). -/
def portWrite (a v : Word) (s : State) : Access Unit :=
  if isTlbPort a then .done () (s.setTlb (tlbAfterOut a v s.tlb))
  else if a = 0xA0 then (if v.getLsbD 0 then .done () (s.setIplDetached true) else .refused .iplReattach)
  else if a = 0xA2 then .done () (s.setMmuEnabled (v.getLsbD 0))
  else if a = 0xA4 ∨ a = 0xA6 then .refused .outToInputPort
  else .done () (s.setDev (devicesAfterOut a v s.dev))

/-- `IoWrite(a, v)` (R197). -/
def ioWrite (a v : Word) (s : State) : Access Unit :=
  if 0xFF < a.toNat then .refused .ioAddressOutOfRange
  else if a.getLsbD 0 then .refused .ioAddressOdd
  else portWrite a v (s.appendTrace (.output a v))

/-- IN and OUT are blocked in user mode unless FLAG.I is 1 (R251). -/
def ioBlocked (s : State) : Bool := !s.flag.p && !s.flag.i

/-! ## Between two instructions (R78, R241, R263) -/

/-- A source's device-side enable bit is 1; the PIO's, which the spec does not show, may be (R240, R241). -/
def sourceEnabled (d : Devices) : IntSource → Bool
  | .timer0 => d.timer0.control.getLsbD 15
  | .timer1 => d.timer1.control.getLsbD 15
  | .rn4020Rx => d.serialRn4020.ctrl.getLsbD 6
  | .rn4020Tx => d.serialRn4020.ctrl.getLsbD 7
  | .ft232rlRx => d.serialFt232rl.ctrl.getLsbD 6
  | .ft232rlTx => d.serialFt232rl.ctrl.getLsbD 7
  | .tecRx => d.serialTec.ctrl.getLsbD 6
  | .tecTx => d.serialTec.ctrl.getLsbD 7
  | .microSd => d.sdCtrl.getLsbD 7
  | .pio => d.pioIrq

/-- `pending` as the enable bits and the request conditions, which the oracle says, give it (R241). -/
def samplePending (d : Devices) (trace : List IoEvent) (time : Nat) : Pending :=
  let f (src : IntSource) : Bool := sourceEnabled d src && Config.deviceRequests trace time src
  { timer0 := f .timer0, timer1 := f .timer1, rn4020Rx := f .rn4020Rx, rn4020Tx := f .rn4020Tx,
    ft232rlRx := f .ft232rlRx, ft232rlTx := f .ft232rlTx, tecRx := f .tecRx, tecTx := f .tecTx,
    microSd := f .microSd, pio := f .pio }

/-- The request bit of a source. -/
def Pending.has (p : Pending) : IntSource → Bool
  | .timer0 => p.timer0
  | .timer1 => p.timer1
  | .rn4020Rx => p.rn4020Rx
  | .rn4020Tx => p.rn4020Tx
  | .ft232rlRx => p.ft232rlRx
  | .ft232rlTx => p.ft232rlTx
  | .tecRx => p.tecRx
  | .tecTx => p.tecTx
  | .microSd => p.microSd
  | .pio => p.pio

/-- The timers' current value and flag registers go on by themselves (R263): an IN reads the oracle anew all the same. -/
def timersRun (d : Devices) (trace : List IoEvent) (time : Nat) : Devices :=
  { d with
    timer0 := { d.timer0 with current := Config.ioOracle trace time 0x00, flag := Config.ioOracle trace time 0x02 }
    timer1 := { d.timer1 with current := Config.ioOracle trace time 0x04, flag := Config.ioOracle trace time 0x06 } }

/-- What the devices do between two instructions: other agents may write memory, the timers run, and the requests are
sampled (R61, R78, R241, R263). -/
def devicesRun (s : State) : State :=
  let s1 := otherAgents s
  let d := timersRun s1.dev s1.trace s1.draws
  ((s1.setDev d).setPending (samplePending d s1.trace s1.draws)).advanceDraws 1

/-- The ten sources of R240. -/
def allSources : List IntSource :=
  [.timer0, .timer1, .rn4020Rx, .rn4020Tx, .ft232rlRx, .ft232rlTx, .tecRx, .tecTx, .microSd, .pio]

/-- The interrupt to accept at this boundary: with E = 1, the pending source first in `INT_PRIORITY` (R242 to R244). -/
def interruptToTake (s : State) : Option IntSource :=
  if s.flag.e then (allSources.map Config.intPriority).find? fun src => s.pending.has src else none

end Sys2Proof.Machine
end

