-- ==== Sys2Proof/Machine/InOut.lean ====
section
/-! DEFINITION. IN and OUT (spec 45_io.md). -/

namespace Sys2Proof.Machine

/-- IN (R195): the privilege check, then `x[Rd] <- IoRead(ea)`. -/
def execIn (rd : Reg) (p : Port) (s : State) : Result :=
  if ioBlocked s then takeException .privilegeViolation s.pc (s.pc + portSize p) s
  else
    complete (ioRead (portAddress p s) s) s.pc (s.pc + portSize p) fun v s1 =>
      .next ((s1.writeReg rd v).setPc (s.pc + portSize p))

/-- OUT (R199): the privilege check, then `IoWrite(ea, x[Rd])`. -/
def execOut (rd : Reg) (p : Port) (s : State) : Result :=
  if ioBlocked s then takeException .privilegeViolation s.pc (s.pc + portSize p) s
  else
    complete (ioWrite (portAddress p s) (s.readReg rd) s) s.pc (s.pc + portSize p) fun _ s1 =>
      .next (s1.setPc (s.pc + portSize p))

/-- IN, mode Drct (R195, R113). -/
def execInDrct (rd : Reg) (dsp : Word) (s : State) : Result := execIn rd (.drct dsp) s

/-- IN, mode Indr (R195, R119). -/
def execInIndr (rd : Reg) (rx : Reg) (s : State) : Result := execIn rd (.indr rx) s

/-- OUT, mode Drct (R199, R113). -/
def execOutDrct (rd : Reg) (dsp : Word) (s : State) : Result := execOut rd (.drct dsp) s

/-- OUT, mode Indr (R199, R119). -/
def execOutIndr (rd : Reg) (rx : Reg) (s : State) : Result := execOut rd (.indr rx) s

end Sys2Proof.Machine
end

