-- ==== Sys2Proof/Machine/Jump.lean ====
section
/-! DEFINITION. The fifteen jumps and CALL (spec 44_jump_call.md). All of them are two words. -/

namespace Sys2Proof.Machine

/-- The shape of the jumps (R170): the target is the operand address itself (R171). -/
def execJump (cond : Cond) (t : Target) (s : State) : Result :=
  .next (s.setPc (if condHolds cond s.flag then targetAddress t s else s.pc + 4))

/-- JZ (R174). -/
def execJz (t : Target) (s : State) : Result := execJump .z t s

/-- JC (R175). -/
def execJc (t : Target) (s : State) : Result := execJump .c t s

/-- JM (R176). -/
def execJm (t : Target) (s : State) : Result := execJump .m t s

/-- JO (R177). -/
def execJo (t : Target) (s : State) : Result := execJump .o t s

/-- JGT (R178). -/
def execJgt (t : Target) (s : State) : Result := execJump .gt t s

/-- JGE (R179). -/
def execJge (t : Target) (s : State) : Result := execJump .ge t s

/-- JLE (R180). -/
def execJle (t : Target) (s : State) : Result := execJump .le t s

/-- JLT (R181). -/
def execJlt (t : Target) (s : State) : Result := execJump .lt t s

/-- JNZ (R182). -/
def execJnz (t : Target) (s : State) : Result := execJump .nz t s

/-- JNC (R183). -/
def execJnc (t : Target) (s : State) : Result := execJump .nc t s

/-- JNM (R184). -/
def execJnm (t : Target) (s : State) : Result := execJump .nm t s

/-- JNO (R185). -/
def execJno (t : Target) (s : State) : Result := execJump .no t s

/-- JHI (R186). -/
def execJhi (t : Target) (s : State) : Result := execJump .hi t s

/-- JLS (R187). -/
def execJls (t : Target) (s : State) : Result := execJump .ls t s

/-- JMP (R188). -/
def execJmp (t : Target) (s : State) : Result := execJump .always t s

/-- CALL (R189): push the address of the next instruction, go to the target computed before the push. -/
def execCall (t : Target) (s : State) : Result :=
  complete (push (s.pc + 4) s) s.pc (s.pc + 4) fun _ s1 => .next (s1.setPc (targetAddress t s))

/-- JZ, mode Drct (R174, R113). -/
def execJzDrct (dsp : Word) (s : State) : Result := execJz (.drct dsp) s

/-- JZ, mode Index (R174, R114). -/
def execJzIndex (dsp : Word) (rx : Reg) (s : State) : Result := execJz (.index dsp rx) s

/-- JC, mode Drct (R175, R113). -/
def execJcDrct (dsp : Word) (s : State) : Result := execJc (.drct dsp) s

/-- JC, mode Index (R175, R114). -/
def execJcIndex (dsp : Word) (rx : Reg) (s : State) : Result := execJc (.index dsp rx) s

/-- JM, mode Drct (R176, R113). -/
def execJmDrct (dsp : Word) (s : State) : Result := execJm (.drct dsp) s

/-- JM, mode Index (R176, R114). -/
def execJmIndex (dsp : Word) (rx : Reg) (s : State) : Result := execJm (.index dsp rx) s

/-- JO, mode Drct (R177, R113). -/
def execJoDrct (dsp : Word) (s : State) : Result := execJo (.drct dsp) s

/-- JO, mode Index (R177, R114). -/
def execJoIndex (dsp : Word) (rx : Reg) (s : State) : Result := execJo (.index dsp rx) s

/-- JGT, mode Drct (R178, R113). -/
def execJgtDrct (dsp : Word) (s : State) : Result := execJgt (.drct dsp) s

/-- JGT, mode Index (R178, R114). -/
def execJgtIndex (dsp : Word) (rx : Reg) (s : State) : Result := execJgt (.index dsp rx) s

/-- JGE, mode Drct (R179, R113). -/
def execJgeDrct (dsp : Word) (s : State) : Result := execJge (.drct dsp) s

/-- JGE, mode Index (R179, R114). -/
def execJgeIndex (dsp : Word) (rx : Reg) (s : State) : Result := execJge (.index dsp rx) s

/-- JLE, mode Drct (R180, R113). -/
def execJleDrct (dsp : Word) (s : State) : Result := execJle (.drct dsp) s

/-- JLE, mode Index (R180, R114). -/
def execJleIndex (dsp : Word) (rx : Reg) (s : State) : Result := execJle (.index dsp rx) s

/-- JLT, mode Drct (R181, R113). -/
def execJltDrct (dsp : Word) (s : State) : Result := execJlt (.drct dsp) s

/-- JLT, mode Index (R181, R114). -/
def execJltIndex (dsp : Word) (rx : Reg) (s : State) : Result := execJlt (.index dsp rx) s

/-- JNZ, mode Drct (R182, R113). -/
def execJnzDrct (dsp : Word) (s : State) : Result := execJnz (.drct dsp) s

/-- JNZ, mode Index (R182, R114). -/
def execJnzIndex (dsp : Word) (rx : Reg) (s : State) : Result := execJnz (.index dsp rx) s

/-- JNC, mode Drct (R183, R113). -/
def execJncDrct (dsp : Word) (s : State) : Result := execJnc (.drct dsp) s

/-- JNC, mode Index (R183, R114). -/
def execJncIndex (dsp : Word) (rx : Reg) (s : State) : Result := execJnc (.index dsp rx) s

/-- JNM, mode Drct (R184, R113). -/
def execJnmDrct (dsp : Word) (s : State) : Result := execJnm (.drct dsp) s

/-- JNM, mode Index (R184, R114). -/
def execJnmIndex (dsp : Word) (rx : Reg) (s : State) : Result := execJnm (.index dsp rx) s

/-- JNO, mode Drct (R185, R113). -/
def execJnoDrct (dsp : Word) (s : State) : Result := execJno (.drct dsp) s

/-- JNO, mode Index (R185, R114). -/
def execJnoIndex (dsp : Word) (rx : Reg) (s : State) : Result := execJno (.index dsp rx) s

/-- JHI, mode Drct (R186, R113). -/
def execJhiDrct (dsp : Word) (s : State) : Result := execJhi (.drct dsp) s

/-- JHI, mode Index (R186, R114). -/
def execJhiIndex (dsp : Word) (rx : Reg) (s : State) : Result := execJhi (.index dsp rx) s

/-- JLS, mode Drct (R187, R113). -/
def execJlsDrct (dsp : Word) (s : State) : Result := execJls (.drct dsp) s

/-- JLS, mode Index (R187, R114). -/
def execJlsIndex (dsp : Word) (rx : Reg) (s : State) : Result := execJls (.index dsp rx) s

/-- JMP, mode Drct (R188, R113). -/
def execJmpDrct (dsp : Word) (s : State) : Result := execJmp (.drct dsp) s

/-- JMP, mode Index (R188, R114). -/
def execJmpIndex (dsp : Word) (rx : Reg) (s : State) : Result := execJmp (.index dsp rx) s

/-- CALL, mode Drct (R189, R113). -/
def execCallDrct (dsp : Word) (s : State) : Result := execCall (.drct dsp) s

/-- CALL, mode Index (R189, R114). -/
def execCallIndex (dsp : Word) (rx : Reg) (s : State) : Result := execCall (.index dsp rx) s

end Sys2Proof.Machine
end

