-- ==== Sys2Proof/Machine/LoadStore.lean ====
section
/-! DEFINITION. NO, LD, ST (spec 41_no_ld_st.md). In every meaning the state's `pc` is the instruction's own address. -/

namespace Sys2Proof.Machine

/-- NO (R130): nothing but the pc's advance. -/
def execNo (s : State) : Result := .next (s.setPc (s.pc + 2))

/-- LD (R131): `x[Rd] <- opv`. -/
def execLd (rd : Reg) (o : Operand) (s : State) : Result :=
  complete (readOperand o s) s.pc (s.pc + operandSize o) fun v s1 =>
    .next ((s1.writeReg rd v).setPc (s.pc + operandSize o))

/-- ST (R133): the register's value to the operand address. -/
def execSt (rd : Reg) (p : Place) (s : State) : Result :=
  complete (writePlace p (s.readReg rd) s) s.pc (s.pc + placeSize p) fun _ s1 =>
    .next (s1.setPc (s.pc + placeSize p))

/-- LD, mode Drct (R131, R113). -/
def execLdDrct (rd : Reg) (dsp : Word) (s : State) : Result := execLd rd (.drct dsp) s

/-- LD, mode Index (R131, R114). -/
def execLdIndex (rd : Reg) (dsp : Word) (rx : Reg) (s : State) : Result := execLd rd (.index dsp rx) s

/-- LD, mode Imm (R131, R115). -/
def execLdImm (rd : Reg) (imm : Word) (s : State) : Result := execLd rd (.imm imm) s

/-- LD, mode FP Rlt (R131, R116). -/
def execLdFpRlt (rd : Reg) (dsp4 : Int) (s : State) : Result := execLd rd (.fpRlt dsp4) s

/-- LD, mode Reg (R131, R117). -/
def execLdReg (rd : Reg) (rs : Reg) (s : State) : Result := execLd rd (.reg rs) s

/-- LD, mode Imm4 (R131, R118). -/
def execLdImm4 (rd : Reg) (imm4 : Int) (s : State) : Result := execLd rd (.imm4 imm4) s

/-- LD, mode Indr (R131, R119). -/
def execLdIndr (rd : Reg) (rx : Reg) (s : State) : Result := execLd rd (.indr rx) s

/-- LD, mode B Indr (R131, R120). -/
def execLdBIndr (rd : Reg) (rx : Reg) (s : State) : Result := execLd rd (.bIndr rx) s

/-- ST, mode Drct (R133, R113). -/
def execStDrct (rd : Reg) (dsp : Word) (s : State) : Result := execSt rd (.drct dsp) s

/-- ST, mode Index (R133, R114). -/
def execStIndex (rd : Reg) (dsp : Word) (rx : Reg) (s : State) : Result := execSt rd (.index dsp rx) s

/-- ST, mode FP Rlt (R133, R116). -/
def execStFpRlt (rd : Reg) (dsp4 : Int) (s : State) : Result := execSt rd (.fpRlt dsp4) s

/-- ST, mode Indr (R133, R119). -/
def execStIndr (rd : Reg) (rx : Reg) (s : State) : Result := execSt rd (.indr rx) s

/-- ST, mode B Indr (R133, R120). -/
def execStBIndr (rd : Reg) (rx : Reg) (s : State) : Result := execSt rd (.bIndr rx) s

end Sys2Proof.Machine
end

