-- ==== Sys2Proof/Machine/Shift.lean ====
section
/-! DEFINITION. The four shifts (spec 43_shift.md). The amount is the whole 16-bit operand value read as unsigned. -/

namespace Sys2Proof.Machine

/-- A shift's flags (R161): C is the bit shifted out when the amount is 1, else a draw; V is a draw. -/
def shiftFlags (r n : Word) (out : Bool) (k : Nat) : Computed :=
  { r := r, c := if n = 1 then out else drawnBit k, v := drawnBit (k + 1), drawn := 2 }

/-- A shift by an amount up to 15, or what `SHIFT_BIG` says of a greater one (R162). -/
def shiftResult (op : ShiftOp) (small : Word) (a n : Word) : Word :=
  if n.toNat ≤ 15 then small else Config.shiftBig op a n

/-- SHLA (R163). -/
def computeShla (a n : Word) (k : Nat) : Computed :=
  shiftFlags (shiftResult .shla (a <<< n.toNat) a n) n (a.getLsbD 15) k

/-- SHLL (R164). -/
def computeShll (a n : Word) (k : Nat) : Computed :=
  shiftFlags (shiftResult .shll (a <<< n.toNat) a n) n (a.getLsbD 15) k

/-- SHRA: copies of bit 15 enter (R165). -/
def computeShra (a n : Word) (k : Nat) : Computed :=
  shiftFlags (shiftResult .shra (a.sshiftRight n.toNat) a n) n (a.getLsbD 0) k

/-- SHRL: zeros enter (R166). -/
def computeShrl (a n : Word) (k : Nat) : Computed :=
  shiftFlags (shiftResult .shrl (a >>> n.toNat) a n) n (a.getLsbD 0) k

/-- SHLA (R163). -/
def execShla (rd : Reg) (o : Operand) (s : State) : Result := execBinary computeShla rd o s

/-- SHLL (R164). -/
def execShll (rd : Reg) (o : Operand) (s : State) : Result := execBinary computeShll rd o s

/-- SHRA (R165). -/
def execShra (rd : Reg) (o : Operand) (s : State) : Result := execBinary computeShra rd o s

/-- SHRL (R166). -/
def execShrl (rd : Reg) (o : Operand) (s : State) : Result := execBinary computeShrl rd o s

/-- SHLA, mode Drct (R163, R113). -/
def execShlaDrct (rd : Reg) (dsp : Word) (s : State) : Result := execShla rd (.drct dsp) s

/-- SHLA, mode Index (R163, R114). -/
def execShlaIndex (rd : Reg) (dsp : Word) (rx : Reg) (s : State) : Result := execShla rd (.index dsp rx) s

/-- SHLA, mode Imm (R163, R115). -/
def execShlaImm (rd : Reg) (imm : Word) (s : State) : Result := execShla rd (.imm imm) s

/-- SHLA, mode FP Rlt (R163, R116). -/
def execShlaFpRlt (rd : Reg) (dsp4 : Int) (s : State) : Result := execShla rd (.fpRlt dsp4) s

/-- SHLA, mode Reg (R163, R117). -/
def execShlaReg (rd : Reg) (rs : Reg) (s : State) : Result := execShla rd (.reg rs) s

/-- SHLA, mode Imm4 (R163, R118). -/
def execShlaImm4 (rd : Reg) (imm4 : Int) (s : State) : Result := execShla rd (.imm4 imm4) s

/-- SHLA, mode Indr (R163, R119). -/
def execShlaIndr (rd : Reg) (rx : Reg) (s : State) : Result := execShla rd (.indr rx) s

/-- SHLA, mode B Indr (R163, R120). -/
def execShlaBIndr (rd : Reg) (rx : Reg) (s : State) : Result := execShla rd (.bIndr rx) s

/-- SHLL, mode Drct (R164, R113). -/
def execShllDrct (rd : Reg) (dsp : Word) (s : State) : Result := execShll rd (.drct dsp) s

/-- SHLL, mode Index (R164, R114). -/
def execShllIndex (rd : Reg) (dsp : Word) (rx : Reg) (s : State) : Result := execShll rd (.index dsp rx) s

/-- SHLL, mode Imm (R164, R115). -/
def execShllImm (rd : Reg) (imm : Word) (s : State) : Result := execShll rd (.imm imm) s

/-- SHLL, mode FP Rlt (R164, R116). -/
def execShllFpRlt (rd : Reg) (dsp4 : Int) (s : State) : Result := execShll rd (.fpRlt dsp4) s

/-- SHLL, mode Reg (R164, R117). -/
def execShllReg (rd : Reg) (rs : Reg) (s : State) : Result := execShll rd (.reg rs) s

/-- SHLL, mode Imm4 (R164, R118). -/
def execShllImm4 (rd : Reg) (imm4 : Int) (s : State) : Result := execShll rd (.imm4 imm4) s

/-- SHLL, mode Indr (R164, R119). -/
def execShllIndr (rd : Reg) (rx : Reg) (s : State) : Result := execShll rd (.indr rx) s

/-- SHLL, mode B Indr (R164, R120). -/
def execShllBIndr (rd : Reg) (rx : Reg) (s : State) : Result := execShll rd (.bIndr rx) s

/-- SHRA, mode Drct (R165, R113). -/
def execShraDrct (rd : Reg) (dsp : Word) (s : State) : Result := execShra rd (.drct dsp) s

/-- SHRA, mode Index (R165, R114). -/
def execShraIndex (rd : Reg) (dsp : Word) (rx : Reg) (s : State) : Result := execShra rd (.index dsp rx) s

/-- SHRA, mode Imm (R165, R115). -/
def execShraImm (rd : Reg) (imm : Word) (s : State) : Result := execShra rd (.imm imm) s

/-- SHRA, mode FP Rlt (R165, R116). -/
def execShraFpRlt (rd : Reg) (dsp4 : Int) (s : State) : Result := execShra rd (.fpRlt dsp4) s

/-- SHRA, mode Reg (R165, R117). -/
def execShraReg (rd : Reg) (rs : Reg) (s : State) : Result := execShra rd (.reg rs) s

/-- SHRA, mode Imm4 (R165, R118). -/
def execShraImm4 (rd : Reg) (imm4 : Int) (s : State) : Result := execShra rd (.imm4 imm4) s

/-- SHRA, mode Indr (R165, R119). -/
def execShraIndr (rd : Reg) (rx : Reg) (s : State) : Result := execShra rd (.indr rx) s

/-- SHRA, mode B Indr (R165, R120). -/
def execShraBIndr (rd : Reg) (rx : Reg) (s : State) : Result := execShra rd (.bIndr rx) s

/-- SHRL, mode Drct (R166, R113). -/
def execShrlDrct (rd : Reg) (dsp : Word) (s : State) : Result := execShrl rd (.drct dsp) s

/-- SHRL, mode Index (R166, R114). -/
def execShrlIndex (rd : Reg) (dsp : Word) (rx : Reg) (s : State) : Result := execShrl rd (.index dsp rx) s

/-- SHRL, mode Imm (R166, R115). -/
def execShrlImm (rd : Reg) (imm : Word) (s : State) : Result := execShrl rd (.imm imm) s

/-- SHRL, mode FP Rlt (R166, R116). -/
def execShrlFpRlt (rd : Reg) (dsp4 : Int) (s : State) : Result := execShrl rd (.fpRlt dsp4) s

/-- SHRL, mode Reg (R166, R117). -/
def execShrlReg (rd : Reg) (rs : Reg) (s : State) : Result := execShrl rd (.reg rs) s

/-- SHRL, mode Imm4 (R166, R118). -/
def execShrlImm4 (rd : Reg) (imm4 : Int) (s : State) : Result := execShrl rd (.imm4 imm4) s

/-- SHRL, mode Indr (R166, R119). -/
def execShrlIndr (rd : Reg) (rx : Reg) (s : State) : Result := execShrl rd (.indr rx) s

/-- SHRL, mode B Indr (R166, R120). -/
def execShrlBIndr (rd : Reg) (rx : Reg) (s : State) : Result := execShrl rd (.bIndr rx) s

end Sys2Proof.Machine
end

