-- ==== Sys2Proof/Machine/Stack.lean ====
section
/-! DEFINITION. PUSH, POP, RET, RETI (spec 46_stack_return.md). -/

namespace Sys2Proof.Machine

/-- The register number names the stack pointer that a push or pop uses now: Dh, or Eh in user mode (R201, R202). -/
def namesStackPointerInUse (rd : Reg) (s : State) : Bool := rd == .sp || (rd == .usp && !s.flag.p)

/-- PUSH (R201). -/
def execPush (rd : Reg) (s : State) : Result :=
  if namesStackPointerInUse rd s then .refused .pushOfStackPointerInUse
  else complete (push (s.readReg rd) s) s.pc (s.pc + 2) fun _ s1 => .next (s1.setPc (s.pc + 2))

/-- POP (R202): the stack pointer moves, then Rd is written. -/
def execPop (rd : Reg) (s : State) : Result :=
  if namesStackPointerInUse rd s then .refused .popOfStackPointerInUse
  else complete (pop s) s.pc (s.pc + 2) fun v s1 => .next ((s1.writeReg rd v).setPc (s.pc + 2))

/-- RET (R203). -/
def execRet (s : State) : Result :=
  complete (pop s) s.pc (s.pc + 2) fun v s1 => .next (s1.setPc v)

/-- RETI (R205). -/
def execReti (s : State) : Result := complete (trapReturn s) s.pc (s.pc + 2) fun _ s1 => .next s1

end Sys2Proof.Machine
end

