-- ==== Sys2Proof/Machine/System.lean ====
section
/-! DEFINITION. SVC and HALT (spec 47_system.md). -/

namespace Sys2Proof.Machine

/-- SVC (R210): take the SupervisorCall exception; the saved PC is the next instruction's. -/
def execSvc (s : State) : Result := takeException .supervisorCall s.pc (s.pc + 2) s

/-- HALT (R212): privileged; the CPU stops with the pc at the next instruction. -/
def execHalt (s : State) : Result :=
  if s.flag.p then .next ((s.setHalted true).setPc (s.pc + 2))
  else takeException .privilegeViolation s.pc (s.pc + 2) s

end Sys2Proof.Machine
end

