-- ==== Sys2Proof/Machine/Fetch.lean ====
section
/-! DEFINITION. Fetching and running one instruction (spec R110, R124), the boundary between instructions (R243), and
placing an instruction where the next fetch finds it. -/

namespace Sys2Proof.Machine

/-- The privilege check of R251, made after decode and before the second word is fetched (R110). -/
def privilegeFails (i : Instr) (s : State) : Bool :=
  match i.form with
  | .input _ _ => ioBlocked s
  | .output _ _ => ioBlocked s
  | .halt => !s.flag.p
  | .no => false
  | .ld _ _ => false
  | .st _ _ => false
  | .arith _ _ _ => false
  | .shift _ _ _ => false
  | .jump _ _ => false
  | .call _ => false
  | .push _ => false
  | .pop _ => false
  | .ret => false
  | .reti => false
  | .svc => false

/-- What a first word without an instruction does (R91): a blank cell raises UndefinedInstruction, a non-canonical fixed
field is refused. -/
def runUndecoded (e : DecodeError) (w : Word) (pc0 : Word) (s : State) : Result :=
  match e with
  | .undefined => takeException .undefinedInstruction pc0 (pc0 + 2) s
  | .nonCanonical => .refused (.nonCanonicalEncoding w)
  | .truncated => .refused (.nonCanonicalEncoding w)

/-- What follows the first fetch of an instruction step (R110): decode, the privilege check, the second fetch, the
instruction's meaning. A privileged instruction whose check fails traps without its second word, which its meaning then
does not look at. -/
def runFetched (w1 pc0 : Word) (s : State) : Result :=
  match decodeFirst w1 with
  | .error e => runUndecoded e w1 pc0 s
  | .ok build =>
    if hasSecondWord w1 && !privilegeFails (build 0) s then
      complete (memReadWord .execute (pc0 + 2) s) pc0 (pc0 + 2) fun w2 s2 => exec (build w2) (otherAgents s2)
    else exec (build 0) s

/-- One instruction step (R110). Other agents may write between its accesses (R61, R73): after each fetch here, inside
`trapEntry` and `trapReturn`, and after the step. -/
def runInstruction (s : State) : Result :=
  complete (memReadWord .execute s.pc s) s.pc s.pc fun w1 s1 => runFetched w1 s.pc (otherAgents s1)

/-- The devices run after a step that goes on. -/
def thenDevices (r : Result) : Result :=
  match r with
  | .next s => .next (devicesRun s)
  | .fault f => .fault f
  | .refused x => .refused x

/-- One step: nothing follows a halted state (R212); a pending interrupt is accepted at the boundary (R243), else one
instruction runs; then the devices run. -/
def boundaryStep (s : State) : Result :=
  if s.halted then .fault .halted
  else
    thenDevices
      (match interruptToTake s with
       | some src => trapEntry (.interrupt src) s.pc s
       | none => runInstruction s)

/-- Store bytes at consecutive physical addresses. -/
def storeBytes : Memory → Word → List Byte → Memory
  | m, _, [] => m
  | m, a, b :: bs => storeBytes (writeMem m a.toNat b) (a + 1) bs

/-- Place an instruction's four bytes at the pc so that the next step fetches and runs it: the CPU is not halted, the pc is
even, no interrupt is pending, no microSD transfer runs that could write over the bytes, translation does not apply to the
fetch, and RAM is shown where the bytes lie. From
`State.reset` only memory and `iplDetached` change (log 3). -/
def placeInstruction (s : State) (bytes : List Byte) : State :=
  let pc := s.pc &&& 0xFFFE
  let covered := inIplRange pc || inIplRange (pc + 2)
  { s with
    pc := pc
    halted := false
    pending := if s.flag.e then Pending.none else s.pending
    dev := { s.dev with sdBuffers := [] }
    mmuEnabled := s.mmuEnabled && s.flag.p
    iplDetached := s.iplDetached || covered
    mem := storeBytes s.mem pc bytes }

end Sys2Proof.Machine
end

