-- ==== Sys2Proof/Machine/Step.lean ====
section
/-! DEFINITION. The machine's step and the placing of its next instruction, under the host's names. -/

namespace Sys2Proof.Machine

/-- One step of the machine (R110, R243). -/
def step (s : State) : Host.Outcome State Fault Refusal := boundaryStep s

/-- `s` with an opcode-table word stored where `step` fetches its next instruction. -/
def State.withFetchWord (s : State) (nbits w : Nat) : State := placeInstruction s (tableBytes nbits w)

end Sys2Proof.Machine
end

