-- ==== Sys2Proof/Safety.lean ====
section
/-! DEFINITION. The terms that claims use: what stays the same between two states, what a register write leaves, and the
invariants every step keeps. -/

namespace Sys2Proof.Machine

/-! ## Frames -/

/-- Every physical register but the listed ones reads as before. -/
def SameRegsBut (written : List PhysReg) (s t : State) : Prop := ∀ r, r ∉ written → t.readPhys r = s.readPhys r

/-- Every byte of memory reads as before. -/
def SameMemory (s t : State) : Prop := ∀ a : Word, t.physByte a = s.physByte a

/-- Every byte of memory outside the listed addresses reads as before. -/
def SameMemoryBut (cells : List Word) (s t : State) : Prop := ∀ a : Word, a ∉ cells → t.physByte a = s.physByte a

/-- The control state outside FLAG and the TLB is as before: MMU and IPL control, violation registers, `halted`, the
requests, the devices and the I/O trace. -/
def SameControl (s t : State) : Prop :=
  t.iplDetached = s.iplDetached ∧ t.mmuEnabled = s.mmuEnabled ∧
  t.violationAddress = s.violationAddress ∧ t.violationAddressFresh = s.violationAddressFresh ∧
  t.violationCause = s.violationCause ∧ t.violationCauseFresh = s.violationCauseFresh ∧
  t.faultPage = s.faultPage ∧ t.faultPageFresh = s.faultPageFresh ∧
  t.halted = s.halted ∧ t.pending = s.pending ∧ t.dev = s.dev ∧ t.trace = s.trace

/-- The system flags E, P, I and the storage flag U are as before. -/
def SameSystemFlags (s t : State) : Prop :=
  t.flag.e = s.flag.e ∧ t.flag.p = s.flag.p ∧ t.flag.i = s.flag.i ∧ t.flag.u = s.flag.u

/-- The bits of a TLB entry that an access of a kind may set: R (bit 12), and D (bit 11) for a write (R69, R70). -/
def tlbMarkBits : AccessKind → BitVec 24
  | .read => 0x001000
  | .write => 0x001800
  | .execute => 0x001000

/-- The TLB differs at most by marks of one kind of access that have been set (R69, R70): those bits apart every bit is as
before, and no bit that was 1 is 0. -/
def OnlyTlbMarks (kind : AccessKind) (t u : Vector (BitVec 24) 8) : Prop :=
  ∀ k, tlbGet u k ||| tlbMarkBits kind = tlbGet t k ||| tlbMarkBits kind ∧ tlbGet u k &&& tlbGet t k = tlbGet t k

/-- `t` is `s` after a write of `v` to register number `rd` (R24): FLAG takes the bits its mode may change; any other
destination holds `v` and FLAG is as before; no other register changes. -/
def WroteReg (rd : Reg) (v : Word) (s t : State) : Prop :=
  (if rd = .flag then t.flag = s.flag.load v else t.readPhys (physOf rd s.flag.p) = v ∧ t.flag = s.flag) ∧
  SameRegsBut [physOf rd s.flag.p] s t

/-- What a flag-changing instruction with result `r` and destinations `written` leaves, whatever its C and V: Z and S from
the result (R141), E, P, I, U and every other register as before, and nothing else written (the TLB is `tlb`). -/
def FlagChangeFrame (written : List PhysReg) (r : Word) (tlb : Vector (BitVec 24) 8) (s t : State) : Prop :=
  t.flag.z = decide (r = 0) ∧ t.flag.s = r.msb ∧ SameSystemFlags s t ∧ SameRegsBut (.flag :: written) s t ∧
  SameMemory s t ∧ SameControl s t ∧ t.tlb = tlb

/-- A place of ST that is a byte (R133). -/
def placeIsByte : Place → Bool
  | .drct _ => false
  | .index _ _ => false
  | .fpRlt _ => false
  | .indr _ => false
  | .bIndr _ => true

/-- Trap entry can push its two words: SSP is even and neither word lies in the attached IPL ROM (R238). -/
def TrapFrameFits (s : State) : Prop :=
  s.ssp.getLsbD 0 = false ∧ s.romShown (s.ssp - 2) = false ∧ s.romShown (s.ssp - 4) = false

/-- Neither word of a trap frame built now lies in the buffer of a running microSD transfer (R61, R78). -/
def TrapFrameFree (s : State) : Prop := ∀ a ∈ [s.ssp - 2, s.ssp - 1, s.ssp - 4, s.ssp - 3], a ∉ s.agentCells

/-- The result `r` of an instruction at `s.pc` whose memory access, of a word or a byte, at `a` fails in state `s`: the
exception is taken in `s`, `next` being the next instruction's address, or the access's refusal is the result (R53, R55,
R69). -/
def FailsAsTheAccess (kind : AccessKind) (isWord : Bool) (a next : Word) (s : State) (r : Result) : Prop :=
  (isWord = true → a.getLsbD 0 = true → r = takeException (.badAddr a) s.pc next s) ∧
  ((isWord = true → a.getLsbD 0 = false) →
    (∀ e s1, translate a kind s = .raised e s1 → r = takeException e s.pc next s) ∧
    (∀ x, translate a kind s = .refused x → r = .refused x) ∧
    (kind = .write → ∀ pa s1, translate a kind s = .done pa s1 → s1.romShown pa = true → r = .refused .iplRomWrite))

/-- `t` is `s` with the details of the exception `e` recorded and nothing else changed: a memory violation leaves its address
and cause (01b memVio, 10b badAddr) and opens the window in which A2h and A4h read them, a TlbMiss leaves its page and opens
the window of A6h, and the other exceptions record nothing (R71, R224, R225, R226). -/
def RecordsDetails (e : Exc) (s t : State) : Prop :=
  (let violation (a : Word) (cause : BitVec 2) : Prop :=
     t.violationAddress = a ∧ t.violationAddressFresh = true ∧ t.violationCause = cause ∧ t.violationCauseFresh = true
   let noViolation : Prop :=
     t.violationAddress = s.violationAddress ∧ t.violationAddressFresh = s.violationAddressFresh ∧
     t.violationCause = s.violationCause ∧ t.violationCauseFresh = s.violationCauseFresh
   let noMiss : Prop := t.faultPage = s.faultPage ∧ t.faultPageFresh = s.faultPageFresh
   match e with
   | .memVio a => violation a 1 ∧ noMiss
   | .badAddr a => violation a 2 ∧ noMiss
   | .tlbMiss page => t.faultPage = page ∧ t.faultPageFresh = true ∧ noViolation
   | .privilegeViolation => noViolation ∧ noMiss
   | .supervisorCall => noViolation ∧ noMiss
   | .undefinedInstruction => noViolation ∧ noMiss
   | .zeroDivide => noViolation ∧ noMiss) ∧
  SameRegsBut [] s t ∧ t.flag = s.flag ∧ t.pc = s.pc ∧ t.mem = s.mem ∧ t.tlb = s.tlb ∧ t.iplDetached = s.iplDetached ∧
  t.mmuEnabled = s.mmuEnabled ∧ t.halted = s.halted ∧ t.pending = s.pending ∧ t.dev = s.dev ∧ t.trace = s.trace ∧
  t.draws = s.draws

/-! ## Invariants -/

/-- Memory is in its canonical form. -/
def MemCanonical (s : State) : Prop := Memory.wf s.mem = true

/-- Bits 14 and 13 of every TLB entry, which are undefined and ignored on a write (R66), are held as 0. -/
def TlbReservedClear (s : State) : Prop := ∀ k, tlbGet s.tlb k &&& 0x6000 = 0

/-- A recorded violation cause is memVio (01b) or badAddr (10b), never both (R224, R225). -/
def CauseIsOneOfTwo (s : State) : Prop := s.violationCauseFresh = true → s.violationCause = 1 ∨ s.violationCause = 2

/-- An address a transfer can have: even, 00h to FEh (R196). -/
def ioAddressOk (a : Word) : Bool := decide (a.toNat ≤ 0xFF) && !a.getLsbD 0

/-- The port address of a trace entry. -/
def ioEventAddress : IoEvent → Word
  | .input a => a
  | .output a _ => a

/-- Every transfer in the trace was at an even address 00h to FEh (R196, R197). -/
def TracePortsLegal (s : State) : Prop := ∀ e ∈ s.trace, ioAddressOk (ioEventAddress e) = true

/-- Only a source whose device-side enable bit is (or may be) 1 requests (R241). -/
def PendingEnabled (s : State) : Prop := ∀ src, s.pending.has src = true → sourceEnabled s.dev src = true

/-- The machine's invariant. -/
def Inv (s : State) : Prop :=
  MemCanonical s ∧ TlbReservedClear s ∧ CauseIsOneOfTwo s ∧ TracePortsLegal s ∧ PendingEnabled s

end Sys2Proof.Machine
end

