-- ==== Sys2Proof/Certificates/Slice0/Obligations.lean ====
section
/-! DEFINITION. The statements for the provers, from the numbered rules of spec/. `Instr.ofForm (.ld rd o)` and the like
range over the opcode-table rows of a mnemonic: the operand `o` has one case per addressing mode, hence per constructor. -/

open Sys2Proof Sys2Proof.Machine

/-! ## Encoding (30_encoding.md) -/

/-- Decoding the bytes of any well-formed instruction gives it back with the rest of the bytes (R80 to R89).
Rests on the spec's own decision D24 (92_eei_decisions.md). -/
def Obligations.DecodeOfEncodedInstruction : Prop :=
  ∀ (i : Instr) (rest : List Byte), i.WellFormed → decode (encodeBytes i ++ rest) = .ok (i, rest)

/-- What a first word decodes to is well formed and encodes to that word, with the second word when the first says there is
one and none otherwise (R80, R84, R89).
Rests on the spec's own decision D24 (92_eei_decisions.md). -/
def Obligations.EncodeOfDecodedWords : Prop :=
  ∀ (w1 : Word) (build : Word → Instr), decodeFirst w1 = .ok build → ∀ w2 : Word,
    (build w2).WellFormed ∧ encode (build w2) = if hasSecondWord w1 then [w1, w2] else [w1]

/-- The undefined encodings are the blank OP values and the jumps with Rd = Dh, and no others (R90 a, b). A jump with Rd = Dh
whose Rx field should be 0 and is not is under both R90 (b) and R90 (c): that it is undefined too, not refused, is the
model's own choice (log 22). -/
def Obligations.UndefinedEncodingsExactly : Prop :=
  ∀ w : Word, decodeFirst w = .error .undefined ↔
    (let op := (hiByte w).toNat
     (0x01 ≤ op ∧ op ≤ 0x07) ∨ op = 0x12 ∨ op = 0x14 ∨ op = 0x15 ∨ (0x68 ≤ op ∧ op ≤ 0x7F) ∨ (0xA2 ≤ op ∧ op ≤ 0xA7) ∨
     (0xAA ≤ op ∧ op ≤ 0xAF) ∨ (0xB1 ≤ op ∧ op ≤ 0xB5) ∨ op = 0xB7 ∨ (0xB9 ≤ op ∧ op ≤ 0xBD) ∨ op = 0xBF ∨
     (0xC1 ≤ op ∧ op ≤ 0xC3) ∨ (0xC5 ≤ op ∧ op ≤ 0xCF) ∨ (0xD1 ≤ op ∧ op ≤ 0xD3) ∨ (0xD5 ≤ op ∧ op ≤ 0xEF) ∨
     (0xF1 ≤ op ∧ op ≤ 0xFE) ∨ ((op = 0xA0 ∨ op = 0xA1) ∧ fieldRd w = 0xD))

/-- Six words written out from the encodings of R94 and R89 decode to the instructions they stand for.
Rests on the spec's own decision D24 (92_eei_decisions.md). -/
def Obligations.WrittenOutWordsDecode : Prop :=
  decode [0x08, 0x10, 0x10, 0x00] = .ok (.ldDrct .g1 0x1000, []) ∧
  decode [0x0B, 0x1E] = .ok (.ldFpRlt .g1 (-4), []) ∧
  decode [0x25, 0x11] = .ok (.subImm4 .g1 1, []) ∧
  decode [0xA1, 0xF1, 0x00, 0x00] = .ok (.jmpIndex 0 .g1, []) ∧
  decode [0xBE, 0x12] = .ok (.outIndr .g1 .g2, []) ∧
  decode [0xD4, 0xF0] = .ok (.reti, [])

/-! ## The instruction step (R110, R212, R243) -/

/-- A step at an instruction boundary with no interrupt to take runs the decoded instruction and then the devices: a
one-word instruction after one fetch, a two-word one after two, a privileged one whose check fails without its second
fetch (R110). `exec` starts with `pc` at the instruction's own address. What a step adds: the fetches' TLB marks;
`otherAgents` after each fetch, which changes no more than memory in the buffers of running microSD transfers, and nothing
where none runs (R61, R73, R78); and `devicesRun` after `exec`, which changes no more than that memory, the timers' current
and flag registers and the requests, each of which is its enable bit and its condition at that moment (R241, R263; log 16). A stop is the step's own.
Rests on the spec's own decisions D4, D27, D35, D36 (92_eei_decisions.md). -/
def Obligations.StepRunsDecodedInstruction : Prop :=
  (∀ (s s0 : State) (w1 : Word) (build : Word → Instr),
    s.halted = false → interruptToTake s = none → memReadWord .execute s.pc s = .done w1 s0 → decodeFirst w1 = .ok build →
    let s1 := otherAgents s0
    (hasSecondWord w1 = false → step s = thenDevices (exec (build 0) s1)) ∧
    (∀ (w2 : Word) (s2 : State), hasSecondWord w1 = true → privilegeFails (build 0) s1 = false →
      memReadWord .execute (s.pc + 2) s1 = .done w2 s2 → step s = thenDevices (exec (build w2) (otherAgents s2))) ∧
    (privilegeFails (build 0) s1 = true → step s = thenDevices (trapEntry .privilegeViolation s.pc s1))) ∧
  (∀ s : State,
    (s.dev.sdBuffers = [] → otherAgents s = s) ∧
    (let t := otherAgents s
     SameRegsBut [] s t ∧ t.flag = s.flag ∧ t.pc = s.pc ∧ t.tlb = s.tlb ∧ SameControl s t ∧
       SameMemoryBut s.agentCells s t) ∧
    thenDevices (.next s) = .next (devicesRun s) ∧
    (let t := devicesRun s
     SameRegsBut [] s t ∧ t.flag = s.flag ∧ t.pc = s.pc ∧ t.tlb = s.tlb ∧
       SameControl s ((t.setDev s.dev).setPending s.pending) ∧
       (∃ time, t.draws = time + 1 ∧
         ∀ src, t.pending.has src = (sourceEnabled s.dev src && Config.deviceRequests s.trace time src)) ∧
       (∃ c0 f0 c1 f1 : Word, t.dev = { s.dev with
          timer0 := { s.dev.timer0 with current := c0, flag := f0 }
          timer1 := { s.dev.timer1 with current := c1, flag := f1 } }) ∧
       SameMemoryBut s.agentCells s t ∧ (s.dev.sdBuffers = [] → SameMemory s t))) ∧
  (∀ f : Fault, thenDevices (.fault f) = .fault f) ∧ (∀ x : Refusal, thenDevices (.refused x) = .refused x)

/-- A word that is no instruction: a blank cell traps to UndefinedInstruction with the saved PC that `EXC_SAVED_PC` says,
a non-canonical fixed field is refused (R89, R91, R227, R236).
Rests on the spec's own decisions D21, D24 (92_eei_decisions.md). -/
def Obligations.UndecodedWordTrapsOrIsRefused : Prop :=
  ∀ (s s1 : State) (w : Word), s.halted = false → interruptToTake s = none →
    memReadWord .execute s.pc s = .done w s1 →
    (decodeFirst w = .error .undefined →
      step s = thenDevices (trapEntry .undefinedInstruction
        (if Config.excSavesOwnPc .undefinedInstruction then s.pc else s.pc + 2) (otherAgents s1))) ∧
    (decodeFirst w = .error .nonCanonical → step s = .refused (.nonCanonicalEncoding w))

/-- A fetch that raises takes its exception before anything else. The first fetch: at an odd PC the violation is recorded
with the PC as the address and cause 10b, and for that and for every other exception (TlbMiss, memVio) the saved PC is the
PC. The second fetch: the saved PC is the instruction's address or that of its second word, as `EXC_SAVED_PC` says. Neither
fetch leaves a mark where it raises, and a fetch that is refused (two TLB entries) refuses the step (R53, R69, R124, R190,
R236).
Rests on the spec's own decisions D2, D20, D21, D30, D36 (92_eei_decisions.md). -/
def Obligations.FetchAtOddPcTraps : Prop :=
  ∀ s : State, s.halted = false → interruptToTake s = none →
    (s.pc.getLsbD 0 = true → step s = thenDevices (trapEntry .memoryViolation s.pc (s.recordViolation s.pc 2))) ∧
    (∀ (e : Exc) (s0 : State), memReadWord .execute s.pc s = .raised e s0 →
      step s = thenDevices (trapEntry (excSlot e) s.pc (recordDetails e s))) ∧
    (∀ x : Refusal, memReadWord .execute s.pc s = .refused x → step s = .refused x) ∧
    (∀ (w1 : Word) (s0 : State) (build : Word → Instr), memReadWord .execute s.pc s = .done w1 s0 →
      decodeFirst w1 = .ok build → hasSecondWord w1 = true → privilegeFails (build 0) s0 = false →
      (∀ (e : Exc) (s2 : State), memReadWord .execute (s.pc + 2) (otherAgents s0) = .raised e s2 →
        step s = thenDevices (trapEntry (excSlot e) (if Config.excSavesOwnPc (excSlot e) then s.pc else s.pc + 2)
          (recordDetails e (otherAgents s0)))) ∧
      (∀ x : Refusal, memReadWord .execute (s.pc + 2) (otherAgents s0) = .refused x → step s = .refused x))

/-- At a boundary with E = 1 and a request pending, the step is a trap entry for a pending source that no other pending
source precedes in `INT_PRIORITY`, saving the PC, and runs no instruction; with E = 0 or no request it is an instruction
step (R242, R243, R244).
Rests on the spec's own decision D23 (92_eei_decisions.md). -/
def Obligations.InterruptIsAcceptedAtTheBoundary : Prop :=
  ∀ s : State, s.halted = false →
    (∀ src0 : IntSource, s.flag.e = true → s.pending.has src0 = true →
      ∃ (src : IntSource) (before after : List IntSource),
        allSources.map Config.intPriority = before ++ src :: after ∧ s.pending.has src = true ∧
        (∀ x ∈ before, s.pending.has x = false) ∧
        step s = thenDevices (trapEntry (.interrupt src) s.pc s)) ∧
    (s.flag.e = false ∨ (∀ src, s.pending.has src = false) → step s = thenDevices (runInstruction s))

/-! ## Memory and the MMU (20_memory.md) -/

/-- A stored word lies big-endian at its two bytes, reads back as stored, and no other byte changes (R50).
Rests on the spec's own decision D1 (92_eei_decisions.md). -/
def Obligations.StoredWordIsBigEndian : Prop :=
  ∀ (s : State) (pa v : Word), pa.getLsbD 0 = false → s.romShown pa = false →
    (s.storeWord pa v).physByte pa = hiByte v ∧ (s.storeWord pa v).physByte (pa + 1) = loByte v ∧
    (s.storeWord pa v).physWord pa = v ∧ SameMemoryBut [pa, pa + 1] s (s.storeWord pa v)

/-- A byte read delivers the byte zero-extended; a byte write stores bits 7..0 and leaves every other byte (R52).
Rests on the spec's own decision D3 (92_eei_decisions.md). -/
def Obligations.ByteAccessIsZeroExtendedAndLocal : Prop :=
  ∀ (s s1 : State) (addr pa v : Word),
    (translate addr .read s = .done pa s1 →
      ∃ x, memReadByte addr s = .done x s1 ∧ x.toNat = (s1.physByte pa).toNat) ∧
    (translate addr .write s = .done pa s1 → s1.romShown pa = false →
      ∃ t, memWriteByte addr v s = .done () t ∧ t.physByte pa = loByte v ∧ SameMemoryBut [pa] s1 t)

/-- Every word access at an odd address raises MemoryViolation(badAddr) with that address, whatever the mode and the MMU:
reads and fetches, writes, pushes and pops; taking it records the address and the cause 10b, opens the window in which A2h
and A4h read them, and changes nothing else (R71, R225). The vector read is at an even
address. A byte access may have any address: it never raises badAddr (R53).
Rests on the spec's own decisions D2, D30 (92_eei_decisions.md). -/
def Obligations.OddWordAccessRaisesBadAddr : Prop :=
  ∀ (s : State) (addr v : Word),
    (addr.getLsbD 0 = true →
      (∀ kind, memReadWord kind addr s = .raised (.badAddr addr) s) ∧
      memWriteWord addr v s = .raised (.badAddr addr) s ∧
      (recordDetails (.badAddr addr) s).violationAddress = addr ∧
      (recordDetails (.badAddr addr) s).violationCause = 2#2 ∧
      (recordDetails (.badAddr addr) s).violationAddressFresh = true ∧
      (recordDetails (.badAddr addr) s).violationCauseFresh = true ∧
      RecordsDetails (.badAddr addr) s (recordDetails (.badAddr addr) s) ∧ excSlot (.badAddr addr) = .memoryViolation) ∧
    (s.sp.getLsbD 0 = true →
      push v s = .raised (.badAddr (s.sp - 2)) s ∧ pop s = .raised (.badAddr s.sp) s) ∧
    (∀ slot, (vectorAddress slot).getLsbD 0 = false) ∧
    (∀ (a : Word) (t : State), memReadByte addr s ≠ .raised (.badAddr a) t ∧ memWriteByte addr v s ≠ .raised (.badAddr a) t)

/-- Translation is the identity unless the MMU is on and the mode is user (R68).
Rests on the spec's own decision D30 (92_eei_decisions.md). -/
def Obligations.TranslationIsIdentityOutsideUserMmu : Prop :=
  ∀ (s : State) (addr : Word) (kind : AccessKind),
    ¬(s.mmuEnabled = true ∧ s.flag.p = false) → translate addr kind s = .done addr s

/-- Where translation applies: no valid entry for the page raises TlbMiss, which records the page; two are refused; one
entry gives the frame and the offset, its R bit set and its D bit set on a write and no other entry changed, if it has the
permission bit (10 read, 9 write, 8 execute), else MemoryViolation(memVio), which records the address and the cause 01b
(R69). Recording opens the windows of the registers it writes, the page's (A6h) or the address's and the cause's (A2h, A4h),
and changes nothing else (R71, R224, R226).
Rests on the spec's own decision D30 (92_eei_decisions.md). -/
def Obligations.TranslationByTheTlb : Prop :=
  ∀ (s : State) (addr : Word) (kind : AccessKind), s.mmuEnabled = true → s.flag.p = false →
    let hit (k : Fin 8) : Prop := (tlbGet s.tlb k).getLsbD 15 = true ∧ (tlbGet s.tlb k).extractLsb' 16 8 = hiByte addr
    let need : Nat := match kind with | .read => 10 | .write => 9 | .execute => 8
    ((∀ k, ¬hit k) → translate addr kind s = .raised (.tlbMiss (hiByte addr)) s ∧
      (recordDetails (.tlbMiss (hiByte addr)) s).faultPage = hiByte addr ∧
      (recordDetails (.tlbMiss (hiByte addr)) s).faultPageFresh = true ∧
      RecordsDetails (.tlbMiss (hiByte addr)) s (recordDetails (.tlbMiss (hiByte addr)) s) ∧
      excSlot (.tlbMiss (hiByte addr)) = .tlbMiss) ∧
    (∀ j k, j ≠ k → hit j → hit k → translate addr kind s = .refused .tlbConflict) ∧
    (∀ k, hit k → (∀ j, j ≠ k → ¬hit j) →
      ((tlbGet s.tlb k).getLsbD need = false → translate addr kind s = .raised (.memVio addr) s ∧
        (recordDetails (.memVio addr) s).violationAddress = addr ∧
        (recordDetails (.memVio addr) s).violationCause = 1#2 ∧
        (recordDetails (.memVio addr) s).violationAddressFresh = true ∧
        (recordDetails (.memVio addr) s).violationCauseFresh = true ∧
        RecordsDetails (.memVio addr) s (recordDetails (.memVio addr) s) ∧ excSlot (.memVio addr) = .memoryViolation) ∧
      ((tlbGet s.tlb k).getLsbD need = true →
        ∃ u, translate addr kind s =
            .done (wordOfBytes ((tlbGet s.tlb k).extractLsb' 0 8) (loByte addr)) (s.setTlb u) ∧
          tlbGet u k = (tlbGet s.tlb k ||| 0x001000 ||| if kind = .write then 0x000800 else 0) ∧
          ∀ j, j ≠ k → tlbGet u j = tlbGet s.tlb j))

/-- While the IPL ROM is attached, E000h to FFDFh reads as the ROM and a write there is refused; every other address, and
every address once the ROM is detached, is RAM (R58, R55).
Rests on the spec's own decision D32 (92_eei_decisions.md). -/
def Obligations.IplRomCoversItsRange : Prop :=
  ∀ (s : State) (pa v : Word),
    (s.iplDetached = false → 0xE000 ≤ pa.toNat → pa.toNat < 0xFFE0 →
      s.physByte pa = Config.iplRom pa ∧
      (s.translates = false → memWriteByte pa v s = .refused .iplRomWrite ∧
        (pa.getLsbD 0 = false → memWriteWord pa v s = .refused .iplRomWrite))) ∧
    (s.iplDetached = true ∨ pa.toNat < 0xE000 ∨ 0xFFE0 ≤ pa.toNat →
      s.physByte pa = readMem s.mem pa.toNat ∧ (s.storeByte pa (loByte v)).physByte pa = loByte v)

/-! ## Operands (40_operands.md) -/

/-- The operand value of each addressing mode (R111): an immediate or a register; the word at the mode's address, or the
byte there zero-extended (R52, R120). The address is used as it stands where translation does not apply and is the
translated one where it does (R54, R68, R69); the value is that of memory as it was; an odd address of a word raises
badAddr (R53); a translation that raises or is refused does so for the operand. A fetched word obeys the same with kind
`execute` (R56).
Rests on the spec's own decisions D2, D3, D30 (92_eei_decisions.md). -/
def Obligations.OperandValueOfEachMode : Prop :=
  ∀ s : State,
    let word (kind : AccessKind) (a : Word) (x : Access Word) : Prop :=
      (a.getLsbD 0 = true → x = .raised (.badAddr a) s) ∧
      (a.getLsbD 0 = false →
        (s.translates = false → x = .done (s.physWord a) s) ∧
        (∀ pa s1, translate a kind s = .done pa s1 → x = .done (s.physWord pa) s1) ∧
        (∀ e s1, translate a kind s = .raised e s1 → x = .raised e s1) ∧
        (∀ r, translate a kind s = .refused r → x = .refused r))
    ∀ (dsp : Word) (r : Reg) (d : Int),
      word .read dsp (readOperand (.drct dsp) s) ∧
      word .read (dsp + s.readReg r) (readOperand (.index dsp r) s) ∧
      readOperand (.imm dsp) s = .done dsp s ∧
      word .read (BitVec.ofInt 16 d + s.fp) (readOperand (.fpRlt d) s) ∧
      readOperand (.reg r) s = .done (s.readReg r) s ∧
      readOperand (.imm4 d) s = .done (BitVec.ofInt 16 d) s ∧
      word .read (s.readReg r) (readOperand (.indr r) s) ∧
      (let a := s.readReg r
       (s.translates = false → readOperand (.bIndr r) s = .done ((s.physByte a).setWidth 16) s) ∧
       (∀ pa s1, translate a .read s = .done pa s1 →
         readOperand (.bIndr r) s = .done ((s.physByte pa).setWidth 16) s1) ∧
       (∀ e s1, translate a .read s = .raised e s1 → readOperand (.bIndr r) s = .raised e s1) ∧
       (∀ x, translate a .read s = .refused x → readOperand (.bIndr r) s = .refused x)) ∧
      word .execute dsp (memReadWord .execute dsp s)

/-- Reading an operand has no effect but R bits set in the TLB, also where it raises (R54, R60, R234).
Rests on the spec's own decisions D20, D30 (92_eei_decisions.md). -/
def Obligations.ReadingAnOperandOnlyMarksTheTlb : Prop :=
  ∀ (o : Operand) (s s1 : State),
    ((∃ v, readOperand o s = .done v s1) ∨ (∃ e, readOperand o s = .raised e s1)) →
    s1 = s.setTlb s1.tlb ∧ OnlyTlbMarks .read s.tlb s1.tlb

/-- The register operands of R23: the general registers and FP; SP is SSP or USP by FLAG.P; USP; and FLAG with bits 15..8
zero and E, P, I, U, V, C, S, Z in bits 7..0 (R25; log 37).
Rests on the spec's own decision D17 (92_eei_decisions.md). -/
def Obligations.RegisterNumbersReadAsTabled : Prop :=
  ∀ s : State,
    (s.readReg .g0 = s.g0 ∧ s.readReg .g1 = s.g1 ∧ s.readReg .g2 = s.g2 ∧ s.readReg .g3 = s.g3 ∧
      s.readReg .g4 = s.g4 ∧ s.readReg .g5 = s.g5 ∧ s.readReg .g6 = s.g6 ∧ s.readReg .g7 = s.g7 ∧
      s.readReg .g8 = s.g8 ∧ s.readReg .g9 = s.g9 ∧ s.readReg .g10 = s.g10 ∧ s.readReg .g11 = s.g11 ∧
      s.readReg .fp = s.fp) ∧
    s.readReg .sp = (if s.flag.p then s.ssp else s.usp) ∧ s.readReg .usp = s.usp ∧
    (let w := s.readReg .flag
     w.extractLsb' 8 8 = 0 ∧ w.getLsbD 7 = s.flag.e ∧ w.getLsbD 6 = s.flag.p ∧ w.getLsbD 5 = s.flag.i ∧
     w.getLsbD 4 = s.flag.u ∧ w.getLsbD 3 = s.flag.v ∧ w.getLsbD 2 = s.flag.c ∧ w.getLsbD 1 = s.flag.s ∧
     w.getLsbD 0 = s.flag.z)

/-- A register write by number (R24): 0 to 11, FP, SP as SSP or USP by FLAG.P, USP, and nothing else changes; register 15
takes bits 7..0 in privileged mode and bits 4..0 in user mode, by the mode before the write, its bits 15..8 stay 0, and no
other register changes.
Rests on the spec's own decision D17 (92_eei_decisions.md). -/
def Obligations.RegisterNumbersWriteAsTabled : Prop :=
  ∀ (s : State) (v : Word),
    (s.writeReg .g0 v = { s with g0 := v } ∧ s.writeReg .g1 v = { s with g1 := v } ∧
      s.writeReg .g2 v = { s with g2 := v } ∧ s.writeReg .g3 v = { s with g3 := v } ∧
      s.writeReg .g4 v = { s with g4 := v } ∧ s.writeReg .g5 v = { s with g5 := v } ∧
      s.writeReg .g6 v = { s with g6 := v } ∧ s.writeReg .g7 v = { s with g7 := v } ∧
      s.writeReg .g8 v = { s with g8 := v } ∧ s.writeReg .g9 v = { s with g9 := v } ∧
      s.writeReg .g10 v = { s with g10 := v } ∧ s.writeReg .g11 v = { s with g11 := v } ∧
      s.writeReg .fp v = { s with fp := v }) ∧
    s.writeReg .sp v = (if s.flag.p then { s with ssp := v } else { s with usp := v }) ∧
    s.writeReg .usp v = { s with usp := v } ∧
    (∃ f, s.writeReg .flag v = { s with flag := f } ∧
      (s.flag.p = true → f.toWord = v &&& 0x00FF) ∧
      (s.flag.p = false → f.toWord = (s.flag.toWord &&& 0x00E0) ||| (v &&& 0x001F)))

/-! ## NO, LD, ST (41_no_ld_st.md) -/

/-- NO is the word 0000h and OP 01h to 07h are not NO; it completes in every state and changes nothing but the PC, which
advances by 2 (R130). -/
def Obligations.NoOnlyAdvancesThePc : Prop :=
  (∀ rest : List Byte, decode (0x00 :: 0x00 :: rest) = .ok (.no, rest)) ∧
  (∀ w : Word, 0x01 ≤ (hiByte w).toNat → (hiByte w).toNat ≤ 0x07 → decodeFirst w = .error .undefined) ∧
  (∀ s : State, exec .no s = .next (s.setPc (s.pc + 2)))

/-- LD, in all eight modes, completes where its operand is readable: it writes the operand value to Rd, and nothing else
but the PC and the operand read's TLB marks (R131). -/
def Obligations.LoadWritesTheOperand : Prop :=
  ∀ (rd : Reg) (o : Operand) (s s1 : State) (v : Word), readOperand o s = .done v s1 →
    ∃ t, exec (Instr.ofForm (.ld rd o)) s = .next t ∧ t.pc = s.pc + operandSize o ∧ WroteReg rd v s t ∧
      SameMemory s t ∧ SameControl s t ∧ t.tlb = s1.tlb

/-- ST in its four word modes completes where its address is even, translates for a write and is not ROM: the register's
value lies big-endian at the translated address (R50), and nothing else changes but the PC and the TLB marks (R53, R133).
Rests on the spec's own decisions D1, D2 (92_eei_decisions.md). -/
def Obligations.StoreWritesTheWord : Prop :=
  ∀ (rd : Reg) (p : Place) (s s1 : State) (pa : Word), placeIsByte p = false → (placeAddress p s).getLsbD 0 = false →
    translate (placeAddress p s) .write s = .done pa s1 → s1.romShown pa = false →
    ∃ t, exec (Instr.ofForm (.st rd p)) s = .next t ∧ t.pc = s.pc + placeSize p ∧
      t.physByte pa = hiByte (s.readReg rd) ∧ t.physByte (pa + 1) = loByte (s.readReg rd) ∧
      SameMemoryBut [pa, pa + 1] s t ∧ SameRegsBut [] s t ∧ t.flag = s.flag ∧ SameControl s t ∧ t.tlb = s1.tlb

/-- ST in mode B Indr completes where its address translates for a write and is not ROM: it stores bits 7..0 of the
register at the translated address, and no other byte changes (R52, R133).
Rests on the spec's own decision D3 (92_eei_decisions.md). -/
def Obligations.ByteStoreWritesOneByte : Prop :=
  ∀ (rd rx : Reg) (s s1 : State) (pa : Word),
    translate (s.readReg rx) .write s = .done pa s1 → s1.romShown pa = false →
    ∃ t, exec (.stBIndr rd rx) s = .next t ∧ t.pc = s.pc + 2 ∧ t.physByte pa = loByte (s.readReg rd) ∧
      SameMemoryBut [pa] s t ∧ SameRegsBut [] s t ∧ t.flag = s.flag ∧ SameControl s t ∧ t.tlb = s1.tlb

/-! ## Arithmetic and logic (42_arith_logic.md) -/

/-- ADD, in all eight modes: the sum modulo 65536, C the unsigned carry, V the signed overflow (R142, R145).
Rests on the spec's own decisions D9, D10 (92_eei_decisions.md). -/
def Obligations.AddWritesSumAndFlags : Prop :=
  ∀ (rd : Reg) (o : Operand) (s s1 : State) (b : Word), rd ≠ .flag → readOperand o s = .done b s1 →
    let a := s.readReg rd
    ∃ t, exec (Instr.ofForm (.arith .add rd o)) s = .next t ∧ t.pc = s.pc + operandSize o ∧
      (t.readPhys (physOf rd s.flag.p)).toNat = (a.toNat + b.toNat) % 65536 ∧
      (t.flag.c = true ↔ 65536 ≤ a.toNat + b.toNat) ∧
      (t.flag.v = true ↔ a.toInt + b.toInt < -32768 ∨ 32767 < a.toInt + b.toInt) ∧
      FlagChangeFrame [physOf rd s.flag.p] (a + b) s1.tlb s t

/-- SUB, in all eight modes: the difference modulo 65536, C the borrow, V the signed overflow (R143, R146).
Rests on the spec's own decision D10 (92_eei_decisions.md). -/
def Obligations.SubWritesDifferenceAndFlags : Prop :=
  ∀ (rd : Reg) (o : Operand) (s s1 : State) (b : Word), rd ≠ .flag → readOperand o s = .done b s1 →
    let a := s.readReg rd
    ∃ t, exec (Instr.ofForm (.arith .sub rd o)) s = .next t ∧ t.pc = s.pc + operandSize o ∧
      t.readPhys (physOf rd s.flag.p) = a - b ∧
      (t.flag.c = true ↔ a.toNat < b.toNat) ∧
      (t.flag.v = true ↔ a.toInt - b.toInt < -32768 ∨ 32767 < a.toInt - b.toInt) ∧
      FlagChangeFrame [physOf rd s.flag.p] (a - b) s1.tlb s t

/-- CMP, in all eight modes and for every Rd, FLAG among them: SUB's flags and no register written (R143, R147).
Rests on the spec's own decisions D8, D10 (92_eei_decisions.md). -/
def Obligations.CmpSetsSubFlagsOnly : Prop :=
  ∀ (rd : Reg) (o : Operand) (s s1 : State) (b : Word), readOperand o s = .done b s1 →
    let a := s.readReg rd
    ∃ t, exec (Instr.ofForm (.arith .cmp rd o)) s = .next t ∧ t.pc = s.pc + operandSize o ∧
      (t.flag.c = true ↔ a.toNat < b.toNat) ∧
      (t.flag.v = true ↔ a.toInt - b.toInt < -32768 ∨ 32767 < a.toInt - b.toInt) ∧
      FlagChangeFrame [] (a - b) s1.tlb s t

/-- AND, OR, XOR, ADDS and MUL, in all eight modes: Rd, Z and S from the result of R148 to R152, C and V anything.
Rests on the spec's own decisions D10, D11, D14 (92_eei_decisions.md). -/
def Obligations.LogicAddsMulWriteTheirResult : Prop :=
  ∀ (op : ArithOp) (rd : Reg) (o : Operand) (s s1 : State) (b : Word), rd ≠ .flag → readOperand o s = .done b s1 →
    let a := s.readReg rd
    ∀ r : Word,
      (op = .and ∧ r = a &&& b ∨ op = .or ∧ r = a ||| b ∨ op = .xor ∧ r = a ^^^ b ∨
        op = .adds ∧ r.toNat = (a.toNat + 2 * b.toNat) % 65536 ∨ op = .mul ∧ r.toNat = (a.toNat * b.toNat) % 65536) →
      ∃ t, exec (Instr.ofForm (.arith op rd o)) s = .next t ∧ t.pc = s.pc + operandSize o ∧
        t.readPhys (physOf rd s.flag.p) = r ∧ FlagChangeFrame [physOf rd s.flag.p] r s1.tlb s t

/-- DIV and MOD, in all eight modes, complete for every non-zero divisor: on 0..7FFFh by 1..7FFFh Rd is the floor quotient
or the remainder, elsewhere what the open parameter `DIVMOD` says (log 9); Z and S from the result, C and V anything
(R153, R154, R155).
Rests on the spec's own decisions D15, D16 (92_eei_decisions.md). -/
def Obligations.DivModWriteQuotientAndRemainder : Prop :=
  ∀ (rd : Reg) (o : Operand) (s s1 : State) (b : Word), rd ≠ .flag → readOperand o s = .done b s1 → b ≠ 0 →
    let a := s.readReg rd
    ∃ t u q m, exec (Instr.ofForm (.arith .div rd o)) s = .next t ∧ exec (Instr.ofForm (.arith .mod rd o)) s = .next u ∧
      t.pc = s.pc + operandSize o ∧ u.pc = s.pc + operandSize o ∧
      t.readPhys (physOf rd s.flag.p) = q ∧ u.readPhys (physOf rd s.flag.p) = m ∧
      (a.toNat ≤ 0x7FFF → b.toNat ≤ 0x7FFF → a.toNat = q.toNat * b.toNat + m.toNat ∧ m.toNat < b.toNat) ∧
      (¬(a.toNat ≤ 0x7FFF ∧ b.toNat ≤ 0x7FFF) → (q, m) = Config.divmod a b) ∧
      FlagChangeFrame [physOf rd s.flag.p] q s1.tlb s t ∧ FlagChangeFrame [physOf rd s.flag.p] m s1.tlb s u

/-- DIV and MOD by zero take ZeroDivide in the state after the operand read, so with Rd and the flags unchanged (R153,
R154, R155, R228).
Rests on the spec's own decisions D15, D16 (92_eei_decisions.md). -/
def Obligations.DivisionByZeroTraps : Prop :=
  ∀ (op : ArithOp) (rd : Reg) (o : Operand) (s s1 : State), op = .div ∨ op = .mod → rd ≠ .flag →
    readOperand o s = .done 0 s1 →
    exec (Instr.ofForm (.arith op rd o)) s =
      trapEntry .zeroDivide (if Config.excSavesOwnPc .zeroDivide then s.pc else s.pc + operandSize o) s1 ∧
    SameRegsBut [] s s1

/-- A flag-changing instruction other than CMP with Rd = FLAG is refused, in every mode and state (R140, R160). That it is
refused also where its operand access would raise or its divisor is 0 is the model's own choice of an order (log 23).
Rests on the spec's own decision D18 (92_eei_decisions.md). -/
def Obligations.FlagDestinationIsRefused : Prop :=
  ∀ (o : Operand) (s : State),
    (∀ op : ArithOp, op ≠ .cmp → exec (Instr.ofForm (.arith op .flag o)) s = .refused .flagDestination) ∧
    (∀ op : ShiftOp, exec (Instr.ofForm (.shift op .flag o)) s = .refused .flagDestination)

/-! ## Shifts (43_shift.md) -/

/-- A shift by 0 to 15, in all eight modes: Rd, Z and S from the result of R163 to R166; when the amount is 1, C is the bit
shifted out; V, and C otherwise, anything (R161).
Rests on the spec's own decisions D10, D11, D12 (92_eei_decisions.md). -/
def Obligations.ShiftBySmallAmount : Prop :=
  ∀ (op : ShiftOp) (rd : Reg) (o : Operand) (s s1 : State) (n : Word), rd ≠ .flag → readOperand o s = .done n s1 →
    n.toNat ≤ 15 →
    let a := s.readReg rd
    ∃ t, exec (Instr.ofForm (.shift op rd o)) s = .next t ∧ t.pc = s.pc + operandSize o ∧
      (let r := t.readPhys (physOf rd s.flag.p)
       (op = .shla ∨ op = .shll → r.toNat = a.toNat * 2 ^ n.toNat % 65536) ∧
       (op = .shra → r.toInt = a.toInt / 2 ^ n.toNat) ∧
       (op = .shrl → r.toNat = a.toNat / 2 ^ n.toNat) ∧
       (n = 1 → t.flag.c = if op = .shla ∨ op = .shll then a.getLsbD 15 else a.getLsbD 0) ∧
       FlagChangeFrame [physOf rd s.flag.p] r s1.tlb s t)

/-- A shift by 16 or more completes, in all eight modes: Rd is what the open parameter `SHIFT_BIG` says (log 10), Z and S
are computed from it, C and V are anything (R162).
Rests on the spec's own decision D13 (92_eei_decisions.md). -/
def Obligations.ShiftByLargeAmountCompletes : Prop :=
  ∀ (op : ShiftOp) (rd : Reg) (o : Operand) (s s1 : State) (n : Word), rd ≠ .flag → readOperand o s = .done n s1 →
    16 ≤ n.toNat →
    ∃ t, exec (Instr.ofForm (.shift op rd o)) s = .next t ∧ t.pc = s.pc + operandSize o ∧
      t.readPhys (physOf rd s.flag.p) = Config.shiftBig op (s.readReg rd) n ∧
      FlagChangeFrame [physOf rd s.flag.p] (Config.shiftBig op (s.readReg rd) n) s1.tlb s t

/-- An instruction whose memory access fails does nothing else. Where the operand read of LD or of a flag-changing
instruction raises, and where the access of ST, PUSH, CALL, POP, RET or RETI does, the instruction takes that exception in
the state it started in, so with every register, SP among them, and memory unchanged, saving the PC that `EXC_SAVED_PC`
says; RETI's second read raises in the state other agents left after its first. A write into the attached IPL ROM is
refused, and so is an access with two TLB entries for its page. Taking any exception is trap entry in a state that differs
only in the details the exception records (R53, R55, R69, R71, R112, R124, R133, R189, R201, R202, R203, R205, R234, R236).
Rests on the spec's own decisions D2, D6, D18, D20, D21, D30, D31, D32, D36 (92_eei_decisions.md). -/
def Obligations.OperandFaultIsTakenPrecisely : Prop :=
  (∀ (rd : Reg) (o : Operand) (s s1 : State) (e : Exc), readOperand o s = .raised e s1 →
    let trap : Result := takeException e s.pc (s.pc + operandSize o) s
    exec (Instr.ofForm (.ld rd o)) s = trap ∧
    (∀ op : ArithOp, rd ≠ .flag ∨ op = .cmp → exec (Instr.ofForm (.arith op rd o)) s = trap) ∧
    (∀ op : ShiftOp, rd ≠ .flag → exec (Instr.ofForm (.shift op rd o)) s = trap)) ∧
  (∀ (rd : Reg) (o : Operand) (s : State) (x : Refusal), readOperand o s = .refused x →
    exec (Instr.ofForm (.ld rd o)) s = .refused x ∧
    (∀ op : ArithOp, rd ≠ .flag ∨ op = .cmp → exec (Instr.ofForm (.arith op rd o)) s = .refused x) ∧
    (∀ op : ShiftOp, rd ≠ .flag → exec (Instr.ofForm (.shift op rd o)) s = .refused x)) ∧
  (∀ (rd : Reg) (p : Place) (s : State),
    FailsAsTheAccess .write (!placeIsByte p) (placeAddress p s) (s.pc + placeSize p) s (exec (Instr.ofForm (.st rd p)) s)) ∧
  (∀ (rd : Reg) (s : State), rd ≠ .sp → (rd = .usp → s.flag.p = true) →
    FailsAsTheAccess .write true (s.sp - 2) (s.pc + 2) s (exec (.push rd) s)) ∧
  (∀ (tg : Target) (s : State), FailsAsTheAccess .write true (s.sp - 2) (s.pc + 4) s (exec (Instr.ofForm (.call tg)) s)) ∧
  (∀ (rd : Reg) (s : State), rd ≠ .sp → (rd = .usp → s.flag.p = true) →
    FailsAsTheAccess .read true s.sp (s.pc + 2) s (exec (.pop rd) s)) ∧
  (∀ s : State, FailsAsTheAccess .read true s.sp (s.pc + 2) s (exec .ret s)) ∧
  (∀ s : State, FailsAsTheAccess .read true s.sp (s.pc + 2) s (exec .reti s)) ∧
  (∀ (s s1 : State) (f : Word), memReadWord .read s.sp s = .done f s1 →
    FailsAsTheAccess .read true (s.sp + 2) (s.pc + 2) (otherAgents s1) (exec .reti s)) ∧
  (∀ (e : Exc) (pc0 next : Word) (s : State),
    takeException e pc0 next s = trapEntry (excSlot e) (savedPc e pc0 next) (recordDetails e s) ∧
    RecordsDetails e s (recordDetails e s))

/-! ## Jumps and CALL (44_jump_call.md) -/

/-- The fifteen jumps, in both modes, complete in every state: PC is the target where the condition of R172 holds and the
next instruction's address otherwise, and nothing else changes (R170, R171, R172).
Rests on the spec's own decision D7 (92_eei_decisions.md). -/
def Obligations.JumpGoesToTargetOnCondition : Prop :=
  ∀ (t : Target) (s : State),
    let target : Word := match t with
      | .drct dsp => dsp
      | .index dsp rx => dsp + s.readReg rx
    let goes (taken : Bool) : State := s.setPc (if taken then target else s.pc + 4)
    let f := s.flag
    exec (Instr.ofForm (.jump .z t)) s = .next (goes f.z) ∧
    exec (Instr.ofForm (.jump .c t)) s = .next (goes f.c) ∧
    exec (Instr.ofForm (.jump .m t)) s = .next (goes f.s) ∧
    exec (Instr.ofForm (.jump .o t)) s = .next (goes f.v) ∧
    exec (Instr.ofForm (.jump .gt t)) s = .next (goes (!(f.z || (f.s ^^ f.v)))) ∧
    exec (Instr.ofForm (.jump .ge t)) s = .next (goes (!(f.s ^^ f.v))) ∧
    exec (Instr.ofForm (.jump .le t)) s = .next (goes (f.z || (f.s ^^ f.v))) ∧
    exec (Instr.ofForm (.jump .lt t)) s = .next (goes (f.s ^^ f.v)) ∧
    exec (Instr.ofForm (.jump .nz t)) s = .next (goes (!f.z)) ∧
    exec (Instr.ofForm (.jump .nc t)) s = .next (goes (!f.c)) ∧
    exec (Instr.ofForm (.jump .nm t)) s = .next (goes (!f.s)) ∧
    exec (Instr.ofForm (.jump .no t)) s = .next (goes (!f.v)) ∧
    exec (Instr.ofForm (.jump .hi t)) s = .next (goes (!(f.z || f.c))) ∧
    exec (Instr.ofForm (.jump .ls t)) s = .next (goes (f.z || f.c)) ∧
    exec (Instr.ofForm (.jump .always t)) s = .next (goes true)

/-- The comparison table: after CMP or SUB of `a` and `b`, each jump of the table is taken exactly when its relation
holds, signed or unsigned (R173). -/
def Obligations.ComparisonTable : Prop :=
  ∀ (op : ArithOp) (rd : Reg) (o : Operand) (s s1 t : State) (b : Word), op = .cmp ∨ op = .sub →
    readOperand o s = .done b s1 → exec (Instr.ofForm (.arith op rd o)) s = .next t →
    let a := s.readReg rd
    (condHolds .gt t.flag = true ↔ b.toInt < a.toInt) ∧ (condHolds .ge t.flag = true ↔ b.toInt ≤ a.toInt) ∧
    (condHolds .z t.flag = true ↔ a = b) ∧ (condHolds .nz t.flag = true ↔ a ≠ b) ∧
    (condHolds .le t.flag = true ↔ a.toInt ≤ b.toInt) ∧ (condHolds .lt t.flag = true ↔ a.toInt < b.toInt) ∧
    (condHolds .hi t.flag = true ↔ b.toNat < a.toNat) ∧ (condHolds .nc t.flag = true ↔ b.toNat ≤ a.toNat) ∧
    (condHolds .ls t.flag = true ↔ a.toNat ≤ b.toNat) ∧ (condHolds .c t.flag = true ↔ a.toNat < b.toNat)

/-- CALL, in both modes, completes where SP is even and its slot can be written: the address of the next instruction lies
on the stack in use, that stack pointer is 2 lower, PC is the target computed from the registers before the push, and
nothing else changes (R189, R200).
Rests on the spec's own decisions D4, D5, D6, D7 (92_eei_decisions.md). -/
def Obligations.CallPushesReturnAddress : Prop :=
  ∀ (tg : Target) (s s1 : State) (pa : Word), s.sp.getLsbD 0 = false →
    translate (s.sp - 2) .write s = .done pa s1 → s1.romShown pa = false →
    ∃ t, exec (Instr.ofForm (.call tg)) s = .next t ∧
      t.pc = (match tg with | .drct dsp => dsp | .index dsp rx => dsp + s.readReg rx) ∧
      t.sp = s.sp - 2 ∧ t.physWord pa = s.pc + 4 ∧ SameMemoryBut [pa, pa + 1] s t ∧
      SameRegsBut [physOf .sp s.flag.p] s t ∧ t.flag = s.flag ∧ SameControl s t ∧ t.tlb = s1.tlb

/-- CALL and RET pair up: where translation does not apply, a RET in the state a CALL left (whatever the PC then is)
resumes at the instruction after the CALL with the stack pointer restored and every other register as before (R204). -/
def Obligations.ReturnUndoesCall : Prop :=
  ∀ (tg : Target) (s t : State) (pc : Word), s.translates = false → s.sp.getLsbD 0 = false →
    s.romShown (s.sp - 2) = false → exec (Instr.ofForm (.call tg)) s = .next t →
    ∃ u, exec .ret (t.setPc pc) = .next u ∧ u.pc = s.pc + 4 ∧ SameRegsBut [] s u

/-! ## PUSH, POP, RET, RETI (46_stack_return.md) -/

/-- PUSH of a register that is not the stack pointer in use completes where SP is even and its slot can be written: the
register's value lies at SP - 2, SP is 2 lower, nothing else changes (R200, R201).
Rests on the spec's own decisions D4, D5, D18 (92_eei_decisions.md). -/
def Obligations.PushStoresTheRegister : Prop :=
  ∀ (rd : Reg) (s s1 : State) (pa : Word), rd ≠ .sp → (rd = .usp → s.flag.p = true) → s.sp.getLsbD 0 = false →
    translate (s.sp - 2) .write s = .done pa s1 → s1.romShown pa = false →
    ∃ t, exec (.push rd) s = .next t ∧ t.pc = s.pc + 2 ∧ t.sp = s.sp - 2 ∧ t.physWord pa = s.readReg rd ∧
      SameMemoryBut [pa, pa + 1] s t ∧ SameRegsBut [physOf .sp s.flag.p] s t ∧ t.flag = s.flag ∧ SameControl s t ∧
      t.tlb = s1.tlb

/-- POP into a register that is not the stack pointer in use completes where SP is even and its slot can be read: the
stack pointer in use is 2 higher, the register (FLAG under its write mask) takes the word, nothing else changes (R200,
R202).
Rests on the spec's own decisions D4, D5, D18 (92_eei_decisions.md). -/
def Obligations.PopLoadsTheRegister : Prop :=
  ∀ (rd : Reg) (s s1 : State) (v : Word), rd ≠ .sp → (rd = .usp → s.flag.p = true) →
    memReadWord .read s.sp s = .done v s1 →
    ∃ t, exec (.pop rd) s = .next t ∧ t.pc = s.pc + 2 ∧ t.readPhys (physOf .sp s.flag.p) = s.sp + 2 ∧
      (if rd = .flag then t.flag = s.flag.load v else t.readPhys (physOf rd s.flag.p) = v ∧ t.flag = s.flag) ∧
      SameRegsBut [physOf .sp s.flag.p, physOf rd s.flag.p] s t ∧ SameMemory s t ∧ SameControl s t ∧ t.tlb = s1.tlb

/-- PUSH and POP of the stack pointer in use are refused: Rd = SP in both modes, Rd = USP in user mode (R201, R202).
Rests on the spec's own decision D18 (92_eei_decisions.md). -/
def Obligations.StackPointerInUseIsRefused : Prop :=
  ∀ (rd : Reg) (s : State), rd = .sp ∨ (rd = .usp ∧ s.flag.p = false) →
    exec (.push rd) s = .refused .pushOfStackPointerInUse ∧ exec (.pop rd) s = .refused .popOfStackPointerInUse

/-- PUSH Rd then POP Rd' copies Rd to Rd' and restores SP, where translation does not apply and neither register is the
stack pointer in use or FLAG (R204). -/
def Obligations.PushThenPopCopies : Prop :=
  ∀ (rd rd' : Reg) (s t : State), s.translates = false → s.sp.getLsbD 0 = false → s.romShown (s.sp - 2) = false →
    rd' ≠ .sp → rd' ≠ .flag → (rd' = .usp → s.flag.p = true) → exec (.push rd) s = .next t → rd ≠ .sp →
    ∃ u, exec (.pop rd') t = .next u ∧ u.readReg rd' = s.readReg rd ∧ u.sp = s.sp ∧
      SameRegsBut [physOf rd' s.flag.p] s u

/-- RET completes where SP is even and its slot can be read: PC is the word on the stack, the stack pointer in use is 2
higher, nothing else changes (R200, R203).
Rests on the spec's own decisions D4, D5 (92_eei_decisions.md). -/
def Obligations.RetPopsThePc : Prop :=
  ∀ (s s1 : State) (v : Word), memReadWord .read s.sp s = .done v s1 →
    ∃ t, exec .ret s = .next t ∧ t.pc = v ∧ t.sp = s.sp + 2 ∧ SameRegsBut [physOf .sp s.flag.p] s t ∧
      t.flag = s.flag ∧ SameMemory s t ∧ SameControl s t ∧ t.tlb = s1.tlb

/-- RETI completes where both its reads succeed: FLAG takes the lower word under the mask of the mode before the
instruction, PC the upper one, the stack pointer of that mode is 4 higher, nothing else changes (R205). Other agents may
write between the two reads, in the buffers of running microSD transfers only (R61, R78).
Rests on the spec's own decisions D18, D27, D31 (92_eei_decisions.md). -/
def Obligations.RetiRestoresFlagAndPc : Prop :=
  ∀ (s s1 s2 : State) (f v : Word), memReadWord .read s.sp s = .done f s1 →
    memReadWord .read (s.sp + 2) (otherAgents s1) = .done v s2 →
    ∃ t, exec .reti s = .next t ∧ t.pc = v ∧ t.flag = s.flag.load f ∧
      t.readPhys (physOf .sp s.flag.p) = s.sp + 4 ∧ SameRegsBut [physOf .sp s.flag.p, .flag] s t ∧
      SameMemoryBut s.agentCells s t ∧ SameControl s t ∧ t.tlb = s2.tlb

/-! ## IN and OUT (45_io.md) -/

/-- IN, in both modes, completes where its privilege check passes and its port address is even and at most FFh: it appends
one trace entry, writes what the port reads to Rd, and changes no memory, no TLB entry, no other register and no control
state, but that reading a violation register ends its window (A2h, A4h, A6h; R71), that a timer's current-value or flag
register then holds what was presented (00h to 06h; R263), and that reading IDLE as 1 at 10h ends the microSD transfers
(R78, R195; log 15, 17, 24).
Rests on the spec's own decisions D27, D29, D30, D35 (92_eei_decisions.md). -/
def Obligations.InReadsThePort : Prop :=
  ∀ (rd : Reg) (p : Port) (s : State), s.flag.p = true ∨ s.flag.i = true → ioAddressOk (portAddress p s) = true →
    let a := portAddress p s
    ∃ v s1 t, portRead a (s.appendTrace (.input a)) = .done v s1 ∧
      exec (Instr.ofForm (.input rd p)) s = .next t ∧ t.pc = s.pc + portSize p ∧ WroteReg rd v s t ∧
      t.trace = s.trace ++ [.input a] ∧ SameMemory s t ∧ t.tlb = s.tlb ∧
      t.iplDetached = s.iplDetached ∧ t.mmuEnabled = s.mmuEnabled ∧ t.halted = s.halted ∧ t.pending = s.pending ∧
      t.violationAddress = s.violationAddress ∧ t.violationCause = s.violationCause ∧ t.faultPage = s.faultPage ∧
      t.violationAddressFresh = (if a = 0xA2 then false else s.violationAddressFresh) ∧
      t.violationCauseFresh = (if a = 0xA4 then false else s.violationCauseFresh) ∧
      t.faultPageFresh = (if a = 0xA6 then false else s.faultPageFresh) ∧
      t.dev =
        (if a = 0x00 then { s.dev with timer0 := { s.dev.timer0 with current := v } }
        else if a = 0x02 then { s.dev with timer0 := { s.dev.timer0 with flag := v } }
        else if a = 0x04 then { s.dev with timer1 := { s.dev.timer1 with current := v } }
        else if a = 0x06 then { s.dev with timer1 := { s.dev.timer1 with flag := v } }
        else if a = 0x10 ∧ v.getLsbD 7 = true then { s.dev with sdBuffers := [] }
        else s.dev)

/-- What the ports read (R196, R66, R67, R71): TLB[k] in two halves with bits 14 and 13 of the low one anything; the
violation registers with their undescribed bits anything, each anything at all once read; any other port
what `IO_ORACLE` presents at that moment, whatever the state holds, at a timer's ports all of it (R263) and elsewhere the
bits within the printed pattern: 0 where a bit is printed 0 and in the high byte of a "00H" row, TR00 0000 at a serial
unit's Stat row and M000 VVVV at the row of 出力ポートHi (R259, R260, R264 to R269; which rows those are is open, log 40).
Rests on the spec's own decisions D29, D30, D35 (92_eei_decisions.md). -/
def Obligations.PortValues : Prop :=
  ∀ (s : State) (v : Word) (s1 : State),
    (∀ (k : Fin 8) (a : Word), a.toNat = 0x80 + 4 * k.val → portRead a s = .done v s1 →
      v.toNat = (tlbPage (tlbGet s.tlb k)).toNat) ∧
    (∀ (k : Fin 8) (a : Word), a.toNat = 0x82 + 4 * k.val → portRead a s = .done v s1 → TlbReservedClear s →
      v &&& 0x9FFF = (tlbGet s.tlb k).extractLsb' 0 16) ∧
    (portRead 0xA2 s = .done v s1 → s.violationAddressFresh = true →
      v = s.violationAddress ∧ s1.violationAddressFresh = false) ∧
    (portRead 0xA4 s = .done v s1 → s.violationCauseFresh = true →
      v.extractLsb' 0 2 = s.violationCause ∧ s1.violationCauseFresh = false) ∧
    (portRead 0xA6 s = .done v s1 → s.faultPageFresh = true →
      v.extractLsb' 0 8 = s.faultPage ∧ s1.faultPageFresh = false) ∧
    (∀ a : Word, ¬(0x80 ≤ a.toNat ∧ a.toNat < 0xA0) → a ≠ 0xA2 → a ≠ 0xA4 → a ≠ 0xA6 → portRead a s = .done v s1 →
      v = Config.ioOracle s.trace s.draws a &&& portReadMask a) ∧
    (∀ a : Word, a = 0x00 ∨ a = 0x02 ∨ a = 0x04 ∨ a = 0x06 → portRead a s = .done v s1 →
      v = Config.ioOracle s.trace s.draws a) ∧
    (portRead 0x10 s = .done v s1 → v &&& 0xFF3E = 0) ∧ (portRead 0x1E s = .done v s1 → v &&& 0xFFF8 = 0) ∧
    (portRead 0x2C s = .done v s1 → v &&& 0xFFF0 = 0) ∧
    (portRead 0x32 s = .done v s1 → v = 0) ∧ (portRead 0x34 s = .done v s1 → v = 0) ∧
    (portRead 0xFC s = .done v s1 → v &&& 0xFFE0 = 0) ∧ (portRead 0xFE s = .done v s1 → v &&& 0xFFF0 = 0) ∧
    (∀ a : Word,
      0x08 ≤ a.toNat ∧ a.toNat ≤ 0x0E ∨ 0x18 ≤ a.toNat ∧ a.toNat ≤ 0x2E ∨ 0x30 ≤ a.toNat ∧ a.toNat ≤ 0x38 →
      portRead a s = .done v s1 → hiByte v = 0) ∧
    (∀ a : Word, a = ft232rlCtrlRow ∨ a = tecCtrlRow ∨ a = rn4020CtrlRow → portRead a s = .done v s1 → v &&& 0xFF3F = 0) ∧
    (portRead portHiRow s = .done v s1 → v &&& 0xFF70 = 0)

/-- OUT, in both modes, completes where its privilege check passes, its port address is even, at most FFh and not A4h or
A6h, and, at A0h, bit 0 of the value is 1: it appends one trace entry with the value of Rd; A0h detaches the IPL ROM, A2h
writes the MMU enable from bit 0, a TLB port writes the TLB, and the register of a device's row takes the bits its pattern
prints: the timers' period and control, a serial unit's Ctrl or data, uSD-Ctrl, whose READ or WRITE starts a transfer with
the buffer at uSD-MemAddr, and the others (R262 to R269; the open rows are log 40, what is started log 17, what is kept
beside the printed bits log 28). That an OUT to any unnamed row counts as a possible enabling of the PIO, whose ports are
lost, is the model's own choice (log 16). Nothing else of these changes; no register, flag, violation register or RAM byte does
(R197, R199).
Rests on the spec's own decisions D27, D29, D35 (92_eei_decisions.md). -/
def Obligations.OutWritesThePort : Prop :=
  ∀ (rd : Reg) (p : Port) (s : State), s.flag.p = true ∨ s.flag.i = true → ioAddressOk (portAddress p s) = true →
    portAddress p s ≠ 0xA4 → portAddress p s ≠ 0xA6 → (portAddress p s = 0xA0 → (s.readReg rd).getLsbD 0 = true) →
    let a := portAddress p s
    let v := s.readReg rd
    let d := s.dev
    ∃ t, exec (Instr.ofForm (.output rd p)) s = .next t ∧ t.pc = s.pc + portSize p ∧
      t.trace = s.trace ++ [.output a v] ∧
      t.iplDetached = (if a = 0xA0 then true else s.iplDetached) ∧
      t.mmuEnabled = (if a = 0xA2 then v.getLsbD 0 else s.mmuEnabled) ∧
      t.tlb = (if 0x80 ≤ a.toNat ∧ a.toNat < 0xA0 then tlbAfterOut a v s.tlb else s.tlb) ∧
      SameRegsBut [] s t ∧ t.flag = s.flag ∧ t.mem = s.mem ∧ t.halted = s.halted ∧ t.pending = s.pending ∧
      t.violationAddress = s.violationAddress ∧ t.violationAddressFresh = s.violationAddressFresh ∧
      t.violationCause = s.violationCause ∧ t.violationCauseFresh = s.violationCauseFresh ∧
      t.faultPage = s.faultPage ∧ t.faultPageFresh = s.faultPageFresh ∧
      (a = 0x00 → t.dev = { d with timer0 := { d.timer0 with period := v } }) ∧
      (a = 0x02 → t.dev = { d with timer0 := { d.timer0 with control := v &&& 0x8001 } }) ∧
      (a = 0x04 → t.dev = { d with timer1 := { d.timer1 with period := v } }) ∧
      (a = 0x06 → t.dev = { d with timer1 := { d.timer1 with control := v &&& 0x8001 } }) ∧
      (a = 0x08 ∨ a = 0x0A → t.dev = { d with serialFt232rl :=
        if a = ft232rlCtrlRow then { d.serialFt232rl with ctrl := loByte v &&& 0xC0 }
        else { d.serialFt232rl with data := loByte v } }) ∧
      (a = 0x0C ∨ a = 0x0E → t.dev = { d with serialTec :=
        if a = tecCtrlRow then { d.serialTec with ctrl := loByte v &&& 0xC0 } else { d.serialTec with data := loByte v } }) ∧
      (a = 0x10 → t.dev = { d with
        sdCtrl := loByte v &&& 0x87
        sdBuffers := if v.getLsbD 1 = true ∨ v.getLsbD 0 = true then d.sdMemAddr :: d.sdBuffers else d.sdBuffers }) ∧
      (a = 0x12 → t.dev = { d with
        sdMemAddr := v, sdBuffers := if d.sdBuffers = [] then [] else v :: d.sdBuffers }) ∧
      (a = 0x14 → t.dev = { d with sdBlkAddrH := v }) ∧ (a = 0x16 → t.dev = { d with sdBlkAddrL := v }) ∧
      (a = 0x1E → t.dev = { d with boardMode := v.extractLsb' 0 3 }) ∧
      (a = 0x2C → t.dev = { d with rn4020Cmd := v.extractLsb' 0 4 }) ∧
      (a = 0x32 → t.dev = { d with tecDataSw := loByte v }) ∧ (a = 0x34 → t.dev = { d with tecFuncSw := loByte v }) ∧
      (a = 0x36 → t.dev = { d with tecCtrl := loByte v &&& 0x87 }) ∧
      (a = 0xF8 → t.dev = { d with consoleData := v }) ∧
      (0x18 ≤ a.toNat ∧ a.toNat ≤ 0x2E ∧ a ≠ 0x1E ∧ a ≠ 0x2C ∨ 0x38 ≤ a.toNat ∧ a.toNat ≤ 0x7E → t.dev = { d with
        serialRn4020 :=
          { data := if a = rn4020DataRow then loByte v else d.serialRn4020.data
            ctrl := if a = rn4020CtrlRow then loByte v &&& 0xC0 else d.serialRn4020.ctrl }
        portHi := if a = portHiRow then loByte v &&& 0x8F else d.portHi
        rn4020Ram := if a = rn4020RamRow then loByte v else d.rn4020Ram
        pioIrq := true }) ∧
      (a = 0x30 ∨ 0x80 ≤ a.toNat ∧ a.toNat < 0xF8 ∨ 0xFA ≤ a.toNat → t.dev = d)

/-- An OUT to a TLB port changes one half of one entry: PAGE from bits 7..0 at 80h + 4k, bits 15..0 but 14 and 13 at
82h + 4k; the other half and the other entries stay (R66, R67, R197).
Rests on the spec's own decisions D29, D30 (92_eei_decisions.md). -/
def Obligations.OutToTlbPortWritesHalfAnEntry : Prop :=
  ∀ (a v : Word) (t : Vector (BitVec 24) 8) (k : Fin 8),
    (a.toNat = 0x80 + 4 * k.val →
      tlbPage (tlbGet (tlbAfterOut a v t) k) = loByte v ∧
      (tlbGet (tlbAfterOut a v t) k).extractLsb' 0 16 = (tlbGet t k).extractLsb' 0 16) ∧
    (a.toNat = 0x82 + 4 * k.val →
      (tlbGet (tlbAfterOut a v t) k).extractLsb' 0 16 = v &&& 0x9FFF ∧
      tlbPage (tlbGet (tlbAfterOut a v t) k) = tlbPage (tlbGet t k)) ∧
    (a.toNat = 0x80 + 4 * k.val ∨ a.toNat = 0x82 + 4 * k.val →
      ∀ j, j ≠ k → tlbGet (tlbAfterOut a v t) j = tlbGet t j)

/-- IN and OUT at an address above FFh or odd, OUT of a value with bit 0 = 0 to A0h, and OUT to A4h or A6h are refused,
each by its name (R196, R197).
Rests on the spec's own decisions D29, D32 (92_eei_decisions.md). -/
def Obligations.IllegalPortAccessIsRefused : Prop :=
  ∀ (rd : Reg) (p : Port) (s : State), s.flag.p = true ∨ s.flag.i = true →
    let a := portAddress p s
    (0xFF < a.toNat →
      exec (Instr.ofForm (.input rd p)) s = .refused .ioAddressOutOfRange ∧
      exec (Instr.ofForm (.output rd p)) s = .refused .ioAddressOutOfRange) ∧
    (a.toNat ≤ 0xFF → a.getLsbD 0 = true →
      exec (Instr.ofForm (.input rd p)) s = .refused .ioAddressOdd ∧
      exec (Instr.ofForm (.output rd p)) s = .refused .ioAddressOdd) ∧
    (a = 0xA0 → (s.readReg rd).getLsbD 0 = false → exec (Instr.ofForm (.output rd p)) s = .refused .iplReattach) ∧
    (a = 0xA4 ∨ a = 0xA6 → exec (Instr.ofForm (.output rd p)) s = .refused .outToInputPort)

/-- The privilege check fails for IN and OUT exactly in user mode with I = 0, for HALT exactly in user mode, and for no
other instruction; an instruction whose check fails traps to PrivilegeViolation saving its own address, in the state it
started in, so before any other access (R250, R251).
Rests on the spec's own decision D19 (92_eei_decisions.md). -/
def Obligations.PrivilegeCheckGuardsInOutHalt : Prop :=
  ∀ s : State,
    (∀ (rd : Reg) (p : Port),
      (privilegeFails (Instr.ofForm (.input rd p)) s = true ↔ s.flag.p = false ∧ s.flag.i = false) ∧
      (privilegeFails (Instr.ofForm (.output rd p)) s = true ↔ s.flag.p = false ∧ s.flag.i = false)) ∧
    (privilegeFails .halt s = true ↔ s.flag.p = false) ∧
    (∀ i : Instr, privilegeFails i s = true →
      exec i s = trapEntry .privilegeViolation s.pc s ∧
      ((∃ rd p, i = Instr.ofForm (.input rd p)) ∨ (∃ rd p, i = Instr.ofForm (.output rd p)) ∨ i = .halt))

/-! ## SVC and HALT (47_system.md) -/

/-- HALT in privileged mode completes: `halted` is set and the PC advances, nothing else changes; and no step leads from a
halted state, whatever its state: the model stops there by name, the normal end of a run (R212; log 20).
Rests on the spec's own decision D26 (92_eei_decisions.md). -/
def Obligations.HaltStopsTheCpu : Prop :=
  ∀ s : State,
    (s.flag.p = true → exec .halt s = .next ((s.setHalted true).setPc (s.pc + 2))) ∧
    (s.halted = true → step s = .fault .halted)

/-- SVC completes in either mode where its frame fits: P is set and E cleared, SSP is 4 lower, USP and the other registers
stay, PC is the word in SVC's vector row, and PC of the next instruction and the old FLAG lie on the kernel stack, unless
other agents write there: the frame is in the buffer of a running microSD transfer (R61, R78, R210, R211, R223, R234).
Rests on the spec's own decisions D20, D21, D27 (92_eei_decisions.md). -/
def Obligations.SvcEntersTheHandler : Prop :=
  ∀ s : State, TrapFrameFits s →
    ∃ t, exec .svc s = .next t ∧
      (TrapFrameFree s → t.physWord (s.ssp - 2) = s.pc + 2 ∧ t.physWord (s.ssp - 4) = s.flag.toWord) ∧
      t.ssp = s.ssp - 4 ∧ t.flag = { s.flag with p := true, e := false } ∧
      t.pc = t.physWord (vectorAddress .supervisorCall) ∧ SameRegsBut [.ssp, .flag] s t ∧
      SameMemoryBut ([s.ssp - 2, s.ssp - 1, s.ssp - 4, s.ssp - 3] ++ s.agentCells) s t ∧ SameControl s t ∧ t.tlb = s.tlb

/-! ## Traps (60_exceptions.md) -/

/-- Trap entry saves the PC and FLAG, two words, on the kernel stack and nothing else: every other register, USP among
them, and every other byte of memory is as before; P is set, E cleared, and PC comes from the slot's row (R234, R235). Other
agents may write between its accesses, in the buffers of running microSD transfers only (R61, R78).
Rests on the spec's own decisions D20, D27 (92_eei_decisions.md). -/
def Obligations.TrapEntryBuildsTheFrame : Prop :=
  ∀ (slot : VectorSlot) (saved : Word) (s : State), TrapFrameFits s →
    ∃ t, trapEntry slot saved s = .next t ∧
      (TrapFrameFree s → t.physWord (t.ssp + 2) = saved ∧ t.physWord t.ssp = s.flag.toWord) ∧ t.ssp = s.ssp - 4 ∧
      t.flag = { s.flag with p := true, e := false } ∧ t.pc = t.physWord (vectorAddress slot) ∧
      SameRegsBut [.ssp, .flag] s t ∧
      SameMemoryBut ([s.ssp - 2, s.ssp - 1, s.ssp - 4, s.ssp - 3] ++ s.agentCells) s t ∧ SameControl s t ∧ t.tlb = s.tlb

/-- Trap entry has three outcomes: with an odd SSP the double fault; with an even SSP and a push into the attached IPL ROM
range the refusal of any such write; else the next state (R238).
Rests on the spec's own decision D33 (92_eei_decisions.md). -/
def Obligations.TrapEntryOutcomes : Prop :=
  ∀ (slot : VectorSlot) (saved : Word) (s : State),
    (s.ssp.getLsbD 0 = true → trapEntry slot saved s = .fault .doubleFault) ∧
    (s.ssp.getLsbD 0 = false → s.romShown (s.ssp - 2) = true ∨ s.romShown (s.ssp - 4) = true →
      trapEntry slot saved s = .refused .iplRomWrite) ∧
    (s.ssp.getLsbD 0 = false → s.romShown (s.ssp - 2) = false → s.romShown (s.ssp - 4) = false →
      ∃ t, trapEntry slot saved s = .next t)

/-- `VECTOR` gives every slot an even address in FFE0h to FFFEh, and distinct slots distinct addresses; memVio and badAddr
share one (R232). -/
def Obligations.VectorRowsAreEvenAndDistinct : Prop :=
  (∀ slot, 0xFFE0 ≤ (vectorAddress slot).toNat ∧ (vectorAddress slot).toNat ≤ 0xFFFE ∧ (vectorAddress slot).toNat % 2 = 0) ∧
  (∀ x y, vectorAddress x = vectorAddress y → x = y) ∧ (∀ a b, excSlot (.memVio a) = excSlot (.badAddr b))

/-- The saved PC of each exception: the instruction itself for a privilege violation, the next one for SVC, one of the two
for the others (R236).
Rests on the spec's own decision D21 (92_eei_decisions.md). -/
def Obligations.SavedPcOfEachException : Prop :=
  ∀ (pc0 advanced a : Word) (page : Byte),
    savedPc .privilegeViolation pc0 advanced = pc0 ∧ savedPc .supervisorCall pc0 advanced = advanced ∧
    ∀ e ∈ [Exc.memVio a, .badAddr a, .tlbMiss page, .undefinedInstruction, .zeroDivide],
      savedPc e pc0 advanced = if Config.excSavesOwnPc (excSlot e) then pc0 else advanced

/-- A trap and the RETI that ends it: after any trap entry, RETI executed in the handler with the stack as the entry left
it (whatever the PC then is) resumes at the saved PC with FLAG, SSP, USP and every other register as before the trap, where
no running microSD transfer has its buffer on the frame (R78, R205, R237).
Rests on the spec's own decisions D18, D20, D31 (92_eei_decisions.md). -/
def Obligations.ReturnFromTrapRestores : Prop :=
  ∀ (slot : VectorSlot) (saved pc : Word) (s t : State), TrapFrameFree s → trapEntry slot saved s = .next t →
    ∃ u, exec .reti (t.setPc pc) = .next u ∧ u.pc = saved ∧ u.flag = s.flag ∧ SameRegsBut [] s u

/-! ## Whole-machine rules -/

/-- User mode cannot raise its privilege but by a trap: an instruction executed in user mode that goes on either leaves E, P
and I as they are and SSP untouched, or is a trap entry (R253, R254).
Rests on the spec's own decisions D17, D20 (92_eei_decisions.md). -/
def Obligations.UserModeIsConfined : Prop :=
  ∀ (i : Instr) (s t : State), s.flag.p = false → exec i s = .next t →
    (t.flag.e = s.flag.e ∧ t.flag.p = false ∧ t.flag.i = s.flag.i ∧ t.ssp = s.ssp ∧ t.halted = s.halted) ∨
    (∃ slot saved s0, exec i s = trapEntry slot saved s0 ∧ s0.flag = s.flag ∧ s0.ssp = s.ssp ∧ t.flag.p = true)

/-- Every step keeps the machine's invariant: canonical memory, TLB bits 14 and 13 clear, a recorded cause of 01b or 10b,
only legal ports in the I/O trace, and requests only from sources whose enable bit is, or may be, 1.
Rests on the spec's own decisions D2, D29, D30, D35 (92_eei_decisions.md). -/
def Obligations.StepKeepsInvariant : Prop :=
  ∀ s t : State, Inv s → step s = .next t → Inv t

/-- After every step, whatever the state before it, a source requests exactly if its device-side enable bit is 1 and its
request condition held when the requests were sampled, after the step's trace and at the last value of the counter; so only
an enabled source requests (R240, R241). The enable bits: bit 15 of a timer's control, bits 6 (receive) and 7 (transmit) of
a serial unit's Ctrl, bit 7 of uSD-Ctrl (R262, R264, R265). When they are sampled, and that the PIO's, which the spec does
not show, counts as 1 once an OUT may have set it, are the model's own choices (log 16).
Rests on the spec's own decision D35 (92_eei_decisions.md). -/
def Obligations.OnlyEnabledSourcesRequest : Prop :=
  (∀ s t : State, step s = .next t →
    PendingEnabled t ∧
    ∃ time, t.draws = time + 1 ∧
      ∀ src, t.pending.has src = (sourceEnabled t.dev src && Config.deviceRequests t.trace time src)) ∧
  (∀ d : Devices,
    sourceEnabled d .timer0 = d.timer0.control.getLsbD 15 ∧ sourceEnabled d .timer1 = d.timer1.control.getLsbD 15 ∧
    sourceEnabled d .ft232rlRx = d.serialFt232rl.ctrl.getLsbD 6 ∧ sourceEnabled d .ft232rlTx = d.serialFt232rl.ctrl.getLsbD 7 ∧
    sourceEnabled d .tecRx = d.serialTec.ctrl.getLsbD 6 ∧ sourceEnabled d .tecTx = d.serialTec.ctrl.getLsbD 7 ∧
    sourceEnabled d .rn4020Rx = d.serialRn4020.ctrl.getLsbD 6 ∧ sourceEnabled d .rn4020Tx = d.serialRn4020.ctrl.getLsbD 7 ∧
    sourceEnabled d .microSd = d.sdCtrl.getLsbD 7 ∧ sourceEnabled d .pio = d.pioIrq)

/-- The invariant holds after reset. Every clause of it is about state that the spec leaves unspecified after reset, so it
holds by the values the model chose: the TLB and the violation registers (log 4), the requests (log 5), memory (log 6) and
the trace, which starts empty (R198).
Rests on the spec's own decisions D25, D27, D35 (92_eei_decisions.md). -/
def Obligations.ResetHasInvariant : Prop := Inv State.reset

/-- What the spec fixes of the state after reset: privileged, interrupts disabled, IPL ROM attached, MMU off, not halted,
RN4020-Cmd = 0001b; and a reset event gives that state with RN4020-RAM kept (R38, R280). The model's own choices: what the
spec leaves unspecified takes the values of `State.reset` (log 1 to 6, 27), and a reset event keeps the trace, the draw
counter and the buffers of running microSD transfers (log 39).
Rests on the spec's own decision D25 (92_eei_decisions.md). -/
def Obligations.ResetValues : Prop :=
  State.reset.flag.p = true ∧ State.reset.flag.e = false ∧ State.reset.iplDetached = false ∧
  State.reset.mmuEnabled = false ∧ State.reset.halted = false ∧ State.reset.dev.rn4020Cmd = 1#4 ∧
  ∀ s : State, (resetEvent s).dev.rn4020Ram = s.dev.rn4020Ram ∧
    resetEvent s =
      { State.reset with
        dev := { State.reset.dev with rn4020Ram := s.dev.rn4020Ram, sdBuffers := s.dev.sdBuffers }
        trace := s.trace
        draws := s.draws }
end

