-- ==== Sys2Proof/Laws/State.lean ====
section
/-! SUPPORT. One lemma per field per update of State, true by rfl, so that no later proof unfolds a record update. -/

namespace Sys2Proof.Machine

/-! ## setPc -/

@[simp] theorem setPc_g0 (s : State) (v : Word) : (s.setPc v).g0 = s.g0 := rfl
@[simp] theorem setPc_g1 (s : State) (v : Word) : (s.setPc v).g1 = s.g1 := rfl
@[simp] theorem setPc_g2 (s : State) (v : Word) : (s.setPc v).g2 = s.g2 := rfl
@[simp] theorem setPc_g3 (s : State) (v : Word) : (s.setPc v).g3 = s.g3 := rfl
@[simp] theorem setPc_g4 (s : State) (v : Word) : (s.setPc v).g4 = s.g4 := rfl
@[simp] theorem setPc_g5 (s : State) (v : Word) : (s.setPc v).g5 = s.g5 := rfl
@[simp] theorem setPc_g6 (s : State) (v : Word) : (s.setPc v).g6 = s.g6 := rfl
@[simp] theorem setPc_g7 (s : State) (v : Word) : (s.setPc v).g7 = s.g7 := rfl
@[simp] theorem setPc_g8 (s : State) (v : Word) : (s.setPc v).g8 = s.g8 := rfl
@[simp] theorem setPc_g9 (s : State) (v : Word) : (s.setPc v).g9 = s.g9 := rfl
@[simp] theorem setPc_g10 (s : State) (v : Word) : (s.setPc v).g10 = s.g10 := rfl
@[simp] theorem setPc_g11 (s : State) (v : Word) : (s.setPc v).g11 = s.g11 := rfl
@[simp] theorem setPc_fp (s : State) (v : Word) : (s.setPc v).fp = s.fp := rfl
@[simp] theorem setPc_ssp (s : State) (v : Word) : (s.setPc v).ssp = s.ssp := rfl
@[simp] theorem setPc_usp (s : State) (v : Word) : (s.setPc v).usp = s.usp := rfl
@[simp] theorem setPc_pc (s : State) (v : Word) : (s.setPc v).pc = v := rfl
@[simp] theorem setPc_flag (s : State) (v : Word) : (s.setPc v).flag = s.flag := rfl
@[simp] theorem setPc_mem (s : State) (v : Word) : (s.setPc v).mem = s.mem := rfl
@[simp] theorem setPc_tlb (s : State) (v : Word) : (s.setPc v).tlb = s.tlb := rfl
@[simp] theorem setPc_iplDetached (s : State) (v : Word) : (s.setPc v).iplDetached = s.iplDetached := rfl
@[simp] theorem setPc_mmuEnabled (s : State) (v : Word) : (s.setPc v).mmuEnabled = s.mmuEnabled := rfl
@[simp] theorem setPc_violationAddress (s : State) (v : Word) : (s.setPc v).violationAddress = s.violationAddress := rfl
@[simp] theorem setPc_violationAddressFresh (s : State) (v : Word) : (s.setPc v).violationAddressFresh = s.violationAddressFresh := rfl
@[simp] theorem setPc_violationCause (s : State) (v : Word) : (s.setPc v).violationCause = s.violationCause := rfl
@[simp] theorem setPc_violationCauseFresh (s : State) (v : Word) : (s.setPc v).violationCauseFresh = s.violationCauseFresh := rfl
@[simp] theorem setPc_faultPage (s : State) (v : Word) : (s.setPc v).faultPage = s.faultPage := rfl
@[simp] theorem setPc_faultPageFresh (s : State) (v : Word) : (s.setPc v).faultPageFresh = s.faultPageFresh := rfl
@[simp] theorem setPc_halted (s : State) (v : Word) : (s.setPc v).halted = s.halted := rfl
@[simp] theorem setPc_pending (s : State) (v : Word) : (s.setPc v).pending = s.pending := rfl
@[simp] theorem setPc_dev (s : State) (v : Word) : (s.setPc v).dev = s.dev := rfl
@[simp] theorem setPc_trace (s : State) (v : Word) : (s.setPc v).trace = s.trace := rfl
@[simp] theorem setPc_draws (s : State) (v : Word) : (s.setPc v).draws = s.draws := rfl
@[simp] theorem setPc_readPhys (s : State) (v : Word) (r : PhysReg) : (s.setPc v).readPhys r = s.readPhys r := by cases r <;> rfl

/-! ## setFlag -/

@[simp] theorem setFlag_g0 (s : State) (f : Flag) : (s.setFlag f).g0 = s.g0 := rfl
@[simp] theorem setFlag_g1 (s : State) (f : Flag) : (s.setFlag f).g1 = s.g1 := rfl
@[simp] theorem setFlag_g2 (s : State) (f : Flag) : (s.setFlag f).g2 = s.g2 := rfl
@[simp] theorem setFlag_g3 (s : State) (f : Flag) : (s.setFlag f).g3 = s.g3 := rfl
@[simp] theorem setFlag_g4 (s : State) (f : Flag) : (s.setFlag f).g4 = s.g4 := rfl
@[simp] theorem setFlag_g5 (s : State) (f : Flag) : (s.setFlag f).g5 = s.g5 := rfl
@[simp] theorem setFlag_g6 (s : State) (f : Flag) : (s.setFlag f).g6 = s.g6 := rfl
@[simp] theorem setFlag_g7 (s : State) (f : Flag) : (s.setFlag f).g7 = s.g7 := rfl
@[simp] theorem setFlag_g8 (s : State) (f : Flag) : (s.setFlag f).g8 = s.g8 := rfl
@[simp] theorem setFlag_g9 (s : State) (f : Flag) : (s.setFlag f).g9 = s.g9 := rfl
@[simp] theorem setFlag_g10 (s : State) (f : Flag) : (s.setFlag f).g10 = s.g10 := rfl
@[simp] theorem setFlag_g11 (s : State) (f : Flag) : (s.setFlag f).g11 = s.g11 := rfl
@[simp] theorem setFlag_fp (s : State) (f : Flag) : (s.setFlag f).fp = s.fp := rfl
@[simp] theorem setFlag_ssp (s : State) (f : Flag) : (s.setFlag f).ssp = s.ssp := rfl
@[simp] theorem setFlag_usp (s : State) (f : Flag) : (s.setFlag f).usp = s.usp := rfl
@[simp] theorem setFlag_pc (s : State) (f : Flag) : (s.setFlag f).pc = s.pc := rfl
@[simp] theorem setFlag_flag (s : State) (f : Flag) : (s.setFlag f).flag = f := rfl
@[simp] theorem setFlag_mem (s : State) (f : Flag) : (s.setFlag f).mem = s.mem := rfl
@[simp] theorem setFlag_tlb (s : State) (f : Flag) : (s.setFlag f).tlb = s.tlb := rfl
@[simp] theorem setFlag_iplDetached (s : State) (f : Flag) : (s.setFlag f).iplDetached = s.iplDetached := rfl
@[simp] theorem setFlag_mmuEnabled (s : State) (f : Flag) : (s.setFlag f).mmuEnabled = s.mmuEnabled := rfl
@[simp] theorem setFlag_violationAddress (s : State) (f : Flag) : (s.setFlag f).violationAddress = s.violationAddress := rfl
@[simp] theorem setFlag_violationAddressFresh (s : State) (f : Flag) : (s.setFlag f).violationAddressFresh = s.violationAddressFresh := rfl
@[simp] theorem setFlag_violationCause (s : State) (f : Flag) : (s.setFlag f).violationCause = s.violationCause := rfl
@[simp] theorem setFlag_violationCauseFresh (s : State) (f : Flag) : (s.setFlag f).violationCauseFresh = s.violationCauseFresh := rfl
@[simp] theorem setFlag_faultPage (s : State) (f : Flag) : (s.setFlag f).faultPage = s.faultPage := rfl
@[simp] theorem setFlag_faultPageFresh (s : State) (f : Flag) : (s.setFlag f).faultPageFresh = s.faultPageFresh := rfl
@[simp] theorem setFlag_halted (s : State) (f : Flag) : (s.setFlag f).halted = s.halted := rfl
@[simp] theorem setFlag_pending (s : State) (f : Flag) : (s.setFlag f).pending = s.pending := rfl
@[simp] theorem setFlag_dev (s : State) (f : Flag) : (s.setFlag f).dev = s.dev := rfl
@[simp] theorem setFlag_trace (s : State) (f : Flag) : (s.setFlag f).trace = s.trace := rfl
@[simp] theorem setFlag_draws (s : State) (f : Flag) : (s.setFlag f).draws = s.draws := rfl

/-! ## setMem -/

@[simp] theorem setMem_g0 (s : State) (m : Memory) : (s.setMem m).g0 = s.g0 := rfl
@[simp] theorem setMem_g1 (s : State) (m : Memory) : (s.setMem m).g1 = s.g1 := rfl
@[simp] theorem setMem_g2 (s : State) (m : Memory) : (s.setMem m).g2 = s.g2 := rfl
@[simp] theorem setMem_g3 (s : State) (m : Memory) : (s.setMem m).g3 = s.g3 := rfl
@[simp] theorem setMem_g4 (s : State) (m : Memory) : (s.setMem m).g4 = s.g4 := rfl
@[simp] theorem setMem_g5 (s : State) (m : Memory) : (s.setMem m).g5 = s.g5 := rfl
@[simp] theorem setMem_g6 (s : State) (m : Memory) : (s.setMem m).g6 = s.g6 := rfl
@[simp] theorem setMem_g7 (s : State) (m : Memory) : (s.setMem m).g7 = s.g7 := rfl
@[simp] theorem setMem_g8 (s : State) (m : Memory) : (s.setMem m).g8 = s.g8 := rfl
@[simp] theorem setMem_g9 (s : State) (m : Memory) : (s.setMem m).g9 = s.g9 := rfl
@[simp] theorem setMem_g10 (s : State) (m : Memory) : (s.setMem m).g10 = s.g10 := rfl
@[simp] theorem setMem_g11 (s : State) (m : Memory) : (s.setMem m).g11 = s.g11 := rfl
@[simp] theorem setMem_fp (s : State) (m : Memory) : (s.setMem m).fp = s.fp := rfl
@[simp] theorem setMem_ssp (s : State) (m : Memory) : (s.setMem m).ssp = s.ssp := rfl
@[simp] theorem setMem_usp (s : State) (m : Memory) : (s.setMem m).usp = s.usp := rfl
@[simp] theorem setMem_pc (s : State) (m : Memory) : (s.setMem m).pc = s.pc := rfl
@[simp] theorem setMem_flag (s : State) (m : Memory) : (s.setMem m).flag = s.flag := rfl
@[simp] theorem setMem_mem (s : State) (m : Memory) : (s.setMem m).mem = m := rfl
@[simp] theorem setMem_tlb (s : State) (m : Memory) : (s.setMem m).tlb = s.tlb := rfl
@[simp] theorem setMem_iplDetached (s : State) (m : Memory) : (s.setMem m).iplDetached = s.iplDetached := rfl
@[simp] theorem setMem_mmuEnabled (s : State) (m : Memory) : (s.setMem m).mmuEnabled = s.mmuEnabled := rfl
@[simp] theorem setMem_violationAddress (s : State) (m : Memory) : (s.setMem m).violationAddress = s.violationAddress := rfl
@[simp] theorem setMem_violationAddressFresh (s : State) (m : Memory) : (s.setMem m).violationAddressFresh = s.violationAddressFresh := rfl
@[simp] theorem setMem_violationCause (s : State) (m : Memory) : (s.setMem m).violationCause = s.violationCause := rfl
@[simp] theorem setMem_violationCauseFresh (s : State) (m : Memory) : (s.setMem m).violationCauseFresh = s.violationCauseFresh := rfl
@[simp] theorem setMem_faultPage (s : State) (m : Memory) : (s.setMem m).faultPage = s.faultPage := rfl
@[simp] theorem setMem_faultPageFresh (s : State) (m : Memory) : (s.setMem m).faultPageFresh = s.faultPageFresh := rfl
@[simp] theorem setMem_halted (s : State) (m : Memory) : (s.setMem m).halted = s.halted := rfl
@[simp] theorem setMem_pending (s : State) (m : Memory) : (s.setMem m).pending = s.pending := rfl
@[simp] theorem setMem_dev (s : State) (m : Memory) : (s.setMem m).dev = s.dev := rfl
@[simp] theorem setMem_trace (s : State) (m : Memory) : (s.setMem m).trace = s.trace := rfl
@[simp] theorem setMem_draws (s : State) (m : Memory) : (s.setMem m).draws = s.draws := rfl
@[simp] theorem setMem_readPhys (s : State) (m : Memory) (r : PhysReg) : (s.setMem m).readPhys r = s.readPhys r := by cases r <;> rfl

/-! ## setTlb -/

@[simp] theorem setTlb_g0 (s : State) (t : Vector (BitVec 24) 8) : (s.setTlb t).g0 = s.g0 := rfl
@[simp] theorem setTlb_g1 (s : State) (t : Vector (BitVec 24) 8) : (s.setTlb t).g1 = s.g1 := rfl
@[simp] theorem setTlb_g2 (s : State) (t : Vector (BitVec 24) 8) : (s.setTlb t).g2 = s.g2 := rfl
@[simp] theorem setTlb_g3 (s : State) (t : Vector (BitVec 24) 8) : (s.setTlb t).g3 = s.g3 := rfl
@[simp] theorem setTlb_g4 (s : State) (t : Vector (BitVec 24) 8) : (s.setTlb t).g4 = s.g4 := rfl
@[simp] theorem setTlb_g5 (s : State) (t : Vector (BitVec 24) 8) : (s.setTlb t).g5 = s.g5 := rfl
@[simp] theorem setTlb_g6 (s : State) (t : Vector (BitVec 24) 8) : (s.setTlb t).g6 = s.g6 := rfl
@[simp] theorem setTlb_g7 (s : State) (t : Vector (BitVec 24) 8) : (s.setTlb t).g7 = s.g7 := rfl
@[simp] theorem setTlb_g8 (s : State) (t : Vector (BitVec 24) 8) : (s.setTlb t).g8 = s.g8 := rfl
@[simp] theorem setTlb_g9 (s : State) (t : Vector (BitVec 24) 8) : (s.setTlb t).g9 = s.g9 := rfl
@[simp] theorem setTlb_g10 (s : State) (t : Vector (BitVec 24) 8) : (s.setTlb t).g10 = s.g10 := rfl
@[simp] theorem setTlb_g11 (s : State) (t : Vector (BitVec 24) 8) : (s.setTlb t).g11 = s.g11 := rfl
@[simp] theorem setTlb_fp (s : State) (t : Vector (BitVec 24) 8) : (s.setTlb t).fp = s.fp := rfl
@[simp] theorem setTlb_ssp (s : State) (t : Vector (BitVec 24) 8) : (s.setTlb t).ssp = s.ssp := rfl
@[simp] theorem setTlb_usp (s : State) (t : Vector (BitVec 24) 8) : (s.setTlb t).usp = s.usp := rfl
@[simp] theorem setTlb_pc (s : State) (t : Vector (BitVec 24) 8) : (s.setTlb t).pc = s.pc := rfl
@[simp] theorem setTlb_flag (s : State) (t : Vector (BitVec 24) 8) : (s.setTlb t).flag = s.flag := rfl
@[simp] theorem setTlb_mem (s : State) (t : Vector (BitVec 24) 8) : (s.setTlb t).mem = s.mem := rfl
@[simp] theorem setTlb_tlb (s : State) (t : Vector (BitVec 24) 8) : (s.setTlb t).tlb = t := rfl
@[simp] theorem setTlb_iplDetached (s : State) (t : Vector (BitVec 24) 8) : (s.setTlb t).iplDetached = s.iplDetached := rfl
@[simp] theorem setTlb_mmuEnabled (s : State) (t : Vector (BitVec 24) 8) : (s.setTlb t).mmuEnabled = s.mmuEnabled := rfl
@[simp] theorem setTlb_violationAddress (s : State) (t : Vector (BitVec 24) 8) : (s.setTlb t).violationAddress = s.violationAddress := rfl
@[simp] theorem setTlb_violationAddressFresh (s : State) (t : Vector (BitVec 24) 8) : (s.setTlb t).violationAddressFresh = s.violationAddressFresh := rfl
@[simp] theorem setTlb_violationCause (s : State) (t : Vector (BitVec 24) 8) : (s.setTlb t).violationCause = s.violationCause := rfl
@[simp] theorem setTlb_violationCauseFresh (s : State) (t : Vector (BitVec 24) 8) : (s.setTlb t).violationCauseFresh = s.violationCauseFresh := rfl
@[simp] theorem setTlb_faultPage (s : State) (t : Vector (BitVec 24) 8) : (s.setTlb t).faultPage = s.faultPage := rfl
@[simp] theorem setTlb_faultPageFresh (s : State) (t : Vector (BitVec 24) 8) : (s.setTlb t).faultPageFresh = s.faultPageFresh := rfl
@[simp] theorem setTlb_halted (s : State) (t : Vector (BitVec 24) 8) : (s.setTlb t).halted = s.halted := rfl
@[simp] theorem setTlb_pending (s : State) (t : Vector (BitVec 24) 8) : (s.setTlb t).pending = s.pending := rfl
@[simp] theorem setTlb_dev (s : State) (t : Vector (BitVec 24) 8) : (s.setTlb t).dev = s.dev := rfl
@[simp] theorem setTlb_trace (s : State) (t : Vector (BitVec 24) 8) : (s.setTlb t).trace = s.trace := rfl
@[simp] theorem setTlb_draws (s : State) (t : Vector (BitVec 24) 8) : (s.setTlb t).draws = s.draws := rfl
@[simp] theorem setTlb_readPhys (s : State) (t : Vector (BitVec 24) 8) (r : PhysReg) : (s.setTlb t).readPhys r = s.readPhys r := by cases r <;> rfl

/-! ## setDev -/

@[simp] theorem setDev_g0 (s : State) (d : Devices) : (s.setDev d).g0 = s.g0 := rfl
@[simp] theorem setDev_g1 (s : State) (d : Devices) : (s.setDev d).g1 = s.g1 := rfl
@[simp] theorem setDev_g2 (s : State) (d : Devices) : (s.setDev d).g2 = s.g2 := rfl
@[simp] theorem setDev_g3 (s : State) (d : Devices) : (s.setDev d).g3 = s.g3 := rfl
@[simp] theorem setDev_g4 (s : State) (d : Devices) : (s.setDev d).g4 = s.g4 := rfl
@[simp] theorem setDev_g5 (s : State) (d : Devices) : (s.setDev d).g5 = s.g5 := rfl
@[simp] theorem setDev_g6 (s : State) (d : Devices) : (s.setDev d).g6 = s.g6 := rfl
@[simp] theorem setDev_g7 (s : State) (d : Devices) : (s.setDev d).g7 = s.g7 := rfl
@[simp] theorem setDev_g8 (s : State) (d : Devices) : (s.setDev d).g8 = s.g8 := rfl
@[simp] theorem setDev_g9 (s : State) (d : Devices) : (s.setDev d).g9 = s.g9 := rfl
@[simp] theorem setDev_g10 (s : State) (d : Devices) : (s.setDev d).g10 = s.g10 := rfl
@[simp] theorem setDev_g11 (s : State) (d : Devices) : (s.setDev d).g11 = s.g11 := rfl
@[simp] theorem setDev_fp (s : State) (d : Devices) : (s.setDev d).fp = s.fp := rfl
@[simp] theorem setDev_ssp (s : State) (d : Devices) : (s.setDev d).ssp = s.ssp := rfl
@[simp] theorem setDev_usp (s : State) (d : Devices) : (s.setDev d).usp = s.usp := rfl
@[simp] theorem setDev_pc (s : State) (d : Devices) : (s.setDev d).pc = s.pc := rfl
@[simp] theorem setDev_flag (s : State) (d : Devices) : (s.setDev d).flag = s.flag := rfl
@[simp] theorem setDev_mem (s : State) (d : Devices) : (s.setDev d).mem = s.mem := rfl
@[simp] theorem setDev_tlb (s : State) (d : Devices) : (s.setDev d).tlb = s.tlb := rfl
@[simp] theorem setDev_iplDetached (s : State) (d : Devices) : (s.setDev d).iplDetached = s.iplDetached := rfl
@[simp] theorem setDev_mmuEnabled (s : State) (d : Devices) : (s.setDev d).mmuEnabled = s.mmuEnabled := rfl
@[simp] theorem setDev_violationAddress (s : State) (d : Devices) : (s.setDev d).violationAddress = s.violationAddress := rfl
@[simp] theorem setDev_violationAddressFresh (s : State) (d : Devices) : (s.setDev d).violationAddressFresh = s.violationAddressFresh := rfl
@[simp] theorem setDev_violationCause (s : State) (d : Devices) : (s.setDev d).violationCause = s.violationCause := rfl
@[simp] theorem setDev_violationCauseFresh (s : State) (d : Devices) : (s.setDev d).violationCauseFresh = s.violationCauseFresh := rfl
@[simp] theorem setDev_faultPage (s : State) (d : Devices) : (s.setDev d).faultPage = s.faultPage := rfl
@[simp] theorem setDev_faultPageFresh (s : State) (d : Devices) : (s.setDev d).faultPageFresh = s.faultPageFresh := rfl
@[simp] theorem setDev_halted (s : State) (d : Devices) : (s.setDev d).halted = s.halted := rfl
@[simp] theorem setDev_pending (s : State) (d : Devices) : (s.setDev d).pending = s.pending := rfl
@[simp] theorem setDev_dev (s : State) (d : Devices) : (s.setDev d).dev = d := rfl
@[simp] theorem setDev_trace (s : State) (d : Devices) : (s.setDev d).trace = s.trace := rfl
@[simp] theorem setDev_draws (s : State) (d : Devices) : (s.setDev d).draws = s.draws := rfl
@[simp] theorem setDev_readPhys (s : State) (d : Devices) (r : PhysReg) : (s.setDev d).readPhys r = s.readPhys r := by cases r <;> rfl

/-! ## setIplDetached -/

@[simp] theorem setIplDetached_g0 (s : State) (b : Bool) : (s.setIplDetached b).g0 = s.g0 := rfl
@[simp] theorem setIplDetached_g1 (s : State) (b : Bool) : (s.setIplDetached b).g1 = s.g1 := rfl
@[simp] theorem setIplDetached_g2 (s : State) (b : Bool) : (s.setIplDetached b).g2 = s.g2 := rfl
@[simp] theorem setIplDetached_g3 (s : State) (b : Bool) : (s.setIplDetached b).g3 = s.g3 := rfl
@[simp] theorem setIplDetached_g4 (s : State) (b : Bool) : (s.setIplDetached b).g4 = s.g4 := rfl
@[simp] theorem setIplDetached_g5 (s : State) (b : Bool) : (s.setIplDetached b).g5 = s.g5 := rfl
@[simp] theorem setIplDetached_g6 (s : State) (b : Bool) : (s.setIplDetached b).g6 = s.g6 := rfl
@[simp] theorem setIplDetached_g7 (s : State) (b : Bool) : (s.setIplDetached b).g7 = s.g7 := rfl
@[simp] theorem setIplDetached_g8 (s : State) (b : Bool) : (s.setIplDetached b).g8 = s.g8 := rfl
@[simp] theorem setIplDetached_g9 (s : State) (b : Bool) : (s.setIplDetached b).g9 = s.g9 := rfl
@[simp] theorem setIplDetached_g10 (s : State) (b : Bool) : (s.setIplDetached b).g10 = s.g10 := rfl
@[simp] theorem setIplDetached_g11 (s : State) (b : Bool) : (s.setIplDetached b).g11 = s.g11 := rfl
@[simp] theorem setIplDetached_fp (s : State) (b : Bool) : (s.setIplDetached b).fp = s.fp := rfl
@[simp] theorem setIplDetached_ssp (s : State) (b : Bool) : (s.setIplDetached b).ssp = s.ssp := rfl
@[simp] theorem setIplDetached_usp (s : State) (b : Bool) : (s.setIplDetached b).usp = s.usp := rfl
@[simp] theorem setIplDetached_pc (s : State) (b : Bool) : (s.setIplDetached b).pc = s.pc := rfl
@[simp] theorem setIplDetached_flag (s : State) (b : Bool) : (s.setIplDetached b).flag = s.flag := rfl
@[simp] theorem setIplDetached_mem (s : State) (b : Bool) : (s.setIplDetached b).mem = s.mem := rfl
@[simp] theorem setIplDetached_tlb (s : State) (b : Bool) : (s.setIplDetached b).tlb = s.tlb := rfl
@[simp] theorem setIplDetached_iplDetached (s : State) (b : Bool) : (s.setIplDetached b).iplDetached = b := rfl
@[simp] theorem setIplDetached_mmuEnabled (s : State) (b : Bool) : (s.setIplDetached b).mmuEnabled = s.mmuEnabled := rfl
@[simp] theorem setIplDetached_violationAddress (s : State) (b : Bool) : (s.setIplDetached b).violationAddress = s.violationAddress := rfl
@[simp] theorem setIplDetached_violationAddressFresh (s : State) (b : Bool) : (s.setIplDetached b).violationAddressFresh = s.violationAddressFresh := rfl
@[simp] theorem setIplDetached_violationCause (s : State) (b : Bool) : (s.setIplDetached b).violationCause = s.violationCause := rfl
@[simp] theorem setIplDetached_violationCauseFresh (s : State) (b : Bool) : (s.setIplDetached b).violationCauseFresh = s.violationCauseFresh := rfl
@[simp] theorem setIplDetached_faultPage (s : State) (b : Bool) : (s.setIplDetached b).faultPage = s.faultPage := rfl
@[simp] theorem setIplDetached_faultPageFresh (s : State) (b : Bool) : (s.setIplDetached b).faultPageFresh = s.faultPageFresh := rfl
@[simp] theorem setIplDetached_halted (s : State) (b : Bool) : (s.setIplDetached b).halted = s.halted := rfl
@[simp] theorem setIplDetached_pending (s : State) (b : Bool) : (s.setIplDetached b).pending = s.pending := rfl
@[simp] theorem setIplDetached_dev (s : State) (b : Bool) : (s.setIplDetached b).dev = s.dev := rfl
@[simp] theorem setIplDetached_trace (s : State) (b : Bool) : (s.setIplDetached b).trace = s.trace := rfl
@[simp] theorem setIplDetached_draws (s : State) (b : Bool) : (s.setIplDetached b).draws = s.draws := rfl
@[simp] theorem setIplDetached_readPhys (s : State) (b : Bool) (r : PhysReg) : (s.setIplDetached b).readPhys r = s.readPhys r := by cases r <;> rfl

/-! ## setMmuEnabled -/

@[simp] theorem setMmuEnabled_g0 (s : State) (b : Bool) : (s.setMmuEnabled b).g0 = s.g0 := rfl
@[simp] theorem setMmuEnabled_g1 (s : State) (b : Bool) : (s.setMmuEnabled b).g1 = s.g1 := rfl
@[simp] theorem setMmuEnabled_g2 (s : State) (b : Bool) : (s.setMmuEnabled b).g2 = s.g2 := rfl
@[simp] theorem setMmuEnabled_g3 (s : State) (b : Bool) : (s.setMmuEnabled b).g3 = s.g3 := rfl
@[simp] theorem setMmuEnabled_g4 (s : State) (b : Bool) : (s.setMmuEnabled b).g4 = s.g4 := rfl
@[simp] theorem setMmuEnabled_g5 (s : State) (b : Bool) : (s.setMmuEnabled b).g5 = s.g5 := rfl
@[simp] theorem setMmuEnabled_g6 (s : State) (b : Bool) : (s.setMmuEnabled b).g6 = s.g6 := rfl
@[simp] theorem setMmuEnabled_g7 (s : State) (b : Bool) : (s.setMmuEnabled b).g7 = s.g7 := rfl
@[simp] theorem setMmuEnabled_g8 (s : State) (b : Bool) : (s.setMmuEnabled b).g8 = s.g8 := rfl
@[simp] theorem setMmuEnabled_g9 (s : State) (b : Bool) : (s.setMmuEnabled b).g9 = s.g9 := rfl
@[simp] theorem setMmuEnabled_g10 (s : State) (b : Bool) : (s.setMmuEnabled b).g10 = s.g10 := rfl
@[simp] theorem setMmuEnabled_g11 (s : State) (b : Bool) : (s.setMmuEnabled b).g11 = s.g11 := rfl
@[simp] theorem setMmuEnabled_fp (s : State) (b : Bool) : (s.setMmuEnabled b).fp = s.fp := rfl
@[simp] theorem setMmuEnabled_ssp (s : State) (b : Bool) : (s.setMmuEnabled b).ssp = s.ssp := rfl
@[simp] theorem setMmuEnabled_usp (s : State) (b : Bool) : (s.setMmuEnabled b).usp = s.usp := rfl
@[simp] theorem setMmuEnabled_pc (s : State) (b : Bool) : (s.setMmuEnabled b).pc = s.pc := rfl
@[simp] theorem setMmuEnabled_flag (s : State) (b : Bool) : (s.setMmuEnabled b).flag = s.flag := rfl
@[simp] theorem setMmuEnabled_mem (s : State) (b : Bool) : (s.setMmuEnabled b).mem = s.mem := rfl
@[simp] theorem setMmuEnabled_tlb (s : State) (b : Bool) : (s.setMmuEnabled b).tlb = s.tlb := rfl
@[simp] theorem setMmuEnabled_iplDetached (s : State) (b : Bool) : (s.setMmuEnabled b).iplDetached = s.iplDetached := rfl
@[simp] theorem setMmuEnabled_mmuEnabled (s : State) (b : Bool) : (s.setMmuEnabled b).mmuEnabled = b := rfl
@[simp] theorem setMmuEnabled_violationAddress (s : State) (b : Bool) : (s.setMmuEnabled b).violationAddress = s.violationAddress := rfl
@[simp] theorem setMmuEnabled_violationAddressFresh (s : State) (b : Bool) : (s.setMmuEnabled b).violationAddressFresh = s.violationAddressFresh := rfl
@[simp] theorem setMmuEnabled_violationCause (s : State) (b : Bool) : (s.setMmuEnabled b).violationCause = s.violationCause := rfl
@[simp] theorem setMmuEnabled_violationCauseFresh (s : State) (b : Bool) : (s.setMmuEnabled b).violationCauseFresh = s.violationCauseFresh := rfl
@[simp] theorem setMmuEnabled_faultPage (s : State) (b : Bool) : (s.setMmuEnabled b).faultPage = s.faultPage := rfl
@[simp] theorem setMmuEnabled_faultPageFresh (s : State) (b : Bool) : (s.setMmuEnabled b).faultPageFresh = s.faultPageFresh := rfl
@[simp] theorem setMmuEnabled_halted (s : State) (b : Bool) : (s.setMmuEnabled b).halted = s.halted := rfl
@[simp] theorem setMmuEnabled_pending (s : State) (b : Bool) : (s.setMmuEnabled b).pending = s.pending := rfl
@[simp] theorem setMmuEnabled_dev (s : State) (b : Bool) : (s.setMmuEnabled b).dev = s.dev := rfl
@[simp] theorem setMmuEnabled_trace (s : State) (b : Bool) : (s.setMmuEnabled b).trace = s.trace := rfl
@[simp] theorem setMmuEnabled_draws (s : State) (b : Bool) : (s.setMmuEnabled b).draws = s.draws := rfl
@[simp] theorem setMmuEnabled_readPhys (s : State) (b : Bool) (r : PhysReg) : (s.setMmuEnabled b).readPhys r = s.readPhys r := by cases r <;> rfl

/-! ## setHalted -/

@[simp] theorem setHalted_g0 (s : State) (b : Bool) : (s.setHalted b).g0 = s.g0 := rfl
@[simp] theorem setHalted_g1 (s : State) (b : Bool) : (s.setHalted b).g1 = s.g1 := rfl
@[simp] theorem setHalted_g2 (s : State) (b : Bool) : (s.setHalted b).g2 = s.g2 := rfl
@[simp] theorem setHalted_g3 (s : State) (b : Bool) : (s.setHalted b).g3 = s.g3 := rfl
@[simp] theorem setHalted_g4 (s : State) (b : Bool) : (s.setHalted b).g4 = s.g4 := rfl
@[simp] theorem setHalted_g5 (s : State) (b : Bool) : (s.setHalted b).g5 = s.g5 := rfl
@[simp] theorem setHalted_g6 (s : State) (b : Bool) : (s.setHalted b).g6 = s.g6 := rfl
@[simp] theorem setHalted_g7 (s : State) (b : Bool) : (s.setHalted b).g7 = s.g7 := rfl
@[simp] theorem setHalted_g8 (s : State) (b : Bool) : (s.setHalted b).g8 = s.g8 := rfl
@[simp] theorem setHalted_g9 (s : State) (b : Bool) : (s.setHalted b).g9 = s.g9 := rfl
@[simp] theorem setHalted_g10 (s : State) (b : Bool) : (s.setHalted b).g10 = s.g10 := rfl
@[simp] theorem setHalted_g11 (s : State) (b : Bool) : (s.setHalted b).g11 = s.g11 := rfl
@[simp] theorem setHalted_fp (s : State) (b : Bool) : (s.setHalted b).fp = s.fp := rfl
@[simp] theorem setHalted_ssp (s : State) (b : Bool) : (s.setHalted b).ssp = s.ssp := rfl
@[simp] theorem setHalted_usp (s : State) (b : Bool) : (s.setHalted b).usp = s.usp := rfl
@[simp] theorem setHalted_pc (s : State) (b : Bool) : (s.setHalted b).pc = s.pc := rfl
@[simp] theorem setHalted_flag (s : State) (b : Bool) : (s.setHalted b).flag = s.flag := rfl
@[simp] theorem setHalted_mem (s : State) (b : Bool) : (s.setHalted b).mem = s.mem := rfl
@[simp] theorem setHalted_tlb (s : State) (b : Bool) : (s.setHalted b).tlb = s.tlb := rfl
@[simp] theorem setHalted_iplDetached (s : State) (b : Bool) : (s.setHalted b).iplDetached = s.iplDetached := rfl
@[simp] theorem setHalted_mmuEnabled (s : State) (b : Bool) : (s.setHalted b).mmuEnabled = s.mmuEnabled := rfl
@[simp] theorem setHalted_violationAddress (s : State) (b : Bool) : (s.setHalted b).violationAddress = s.violationAddress := rfl
@[simp] theorem setHalted_violationAddressFresh (s : State) (b : Bool) : (s.setHalted b).violationAddressFresh = s.violationAddressFresh := rfl
@[simp] theorem setHalted_violationCause (s : State) (b : Bool) : (s.setHalted b).violationCause = s.violationCause := rfl
@[simp] theorem setHalted_violationCauseFresh (s : State) (b : Bool) : (s.setHalted b).violationCauseFresh = s.violationCauseFresh := rfl
@[simp] theorem setHalted_faultPage (s : State) (b : Bool) : (s.setHalted b).faultPage = s.faultPage := rfl
@[simp] theorem setHalted_faultPageFresh (s : State) (b : Bool) : (s.setHalted b).faultPageFresh = s.faultPageFresh := rfl
@[simp] theorem setHalted_halted (s : State) (b : Bool) : (s.setHalted b).halted = b := rfl
@[simp] theorem setHalted_pending (s : State) (b : Bool) : (s.setHalted b).pending = s.pending := rfl
@[simp] theorem setHalted_dev (s : State) (b : Bool) : (s.setHalted b).dev = s.dev := rfl
@[simp] theorem setHalted_trace (s : State) (b : Bool) : (s.setHalted b).trace = s.trace := rfl
@[simp] theorem setHalted_draws (s : State) (b : Bool) : (s.setHalted b).draws = s.draws := rfl
@[simp] theorem setHalted_readPhys (s : State) (b : Bool) (r : PhysReg) : (s.setHalted b).readPhys r = s.readPhys r := by cases r <;> rfl

/-! ## setPending -/

@[simp] theorem setPending_g0 (s : State) (p : Pending) : (s.setPending p).g0 = s.g0 := rfl
@[simp] theorem setPending_g1 (s : State) (p : Pending) : (s.setPending p).g1 = s.g1 := rfl
@[simp] theorem setPending_g2 (s : State) (p : Pending) : (s.setPending p).g2 = s.g2 := rfl
@[simp] theorem setPending_g3 (s : State) (p : Pending) : (s.setPending p).g3 = s.g3 := rfl
@[simp] theorem setPending_g4 (s : State) (p : Pending) : (s.setPending p).g4 = s.g4 := rfl
@[simp] theorem setPending_g5 (s : State) (p : Pending) : (s.setPending p).g5 = s.g5 := rfl
@[simp] theorem setPending_g6 (s : State) (p : Pending) : (s.setPending p).g6 = s.g6 := rfl
@[simp] theorem setPending_g7 (s : State) (p : Pending) : (s.setPending p).g7 = s.g7 := rfl
@[simp] theorem setPending_g8 (s : State) (p : Pending) : (s.setPending p).g8 = s.g8 := rfl
@[simp] theorem setPending_g9 (s : State) (p : Pending) : (s.setPending p).g9 = s.g9 := rfl
@[simp] theorem setPending_g10 (s : State) (p : Pending) : (s.setPending p).g10 = s.g10 := rfl
@[simp] theorem setPending_g11 (s : State) (p : Pending) : (s.setPending p).g11 = s.g11 := rfl
@[simp] theorem setPending_fp (s : State) (p : Pending) : (s.setPending p).fp = s.fp := rfl
@[simp] theorem setPending_ssp (s : State) (p : Pending) : (s.setPending p).ssp = s.ssp := rfl
@[simp] theorem setPending_usp (s : State) (p : Pending) : (s.setPending p).usp = s.usp := rfl
@[simp] theorem setPending_pc (s : State) (p : Pending) : (s.setPending p).pc = s.pc := rfl
@[simp] theorem setPending_flag (s : State) (p : Pending) : (s.setPending p).flag = s.flag := rfl
@[simp] theorem setPending_mem (s : State) (p : Pending) : (s.setPending p).mem = s.mem := rfl
@[simp] theorem setPending_tlb (s : State) (p : Pending) : (s.setPending p).tlb = s.tlb := rfl
@[simp] theorem setPending_iplDetached (s : State) (p : Pending) : (s.setPending p).iplDetached = s.iplDetached := rfl
@[simp] theorem setPending_mmuEnabled (s : State) (p : Pending) : (s.setPending p).mmuEnabled = s.mmuEnabled := rfl
@[simp] theorem setPending_violationAddress (s : State) (p : Pending) : (s.setPending p).violationAddress = s.violationAddress := rfl
@[simp] theorem setPending_violationAddressFresh (s : State) (p : Pending) : (s.setPending p).violationAddressFresh = s.violationAddressFresh := rfl
@[simp] theorem setPending_violationCause (s : State) (p : Pending) : (s.setPending p).violationCause = s.violationCause := rfl
@[simp] theorem setPending_violationCauseFresh (s : State) (p : Pending) : (s.setPending p).violationCauseFresh = s.violationCauseFresh := rfl
@[simp] theorem setPending_faultPage (s : State) (p : Pending) : (s.setPending p).faultPage = s.faultPage := rfl
@[simp] theorem setPending_faultPageFresh (s : State) (p : Pending) : (s.setPending p).faultPageFresh = s.faultPageFresh := rfl
@[simp] theorem setPending_halted (s : State) (p : Pending) : (s.setPending p).halted = s.halted := rfl
@[simp] theorem setPending_pending (s : State) (p : Pending) : (s.setPending p).pending = p := rfl
@[simp] theorem setPending_dev (s : State) (p : Pending) : (s.setPending p).dev = s.dev := rfl
@[simp] theorem setPending_trace (s : State) (p : Pending) : (s.setPending p).trace = s.trace := rfl
@[simp] theorem setPending_draws (s : State) (p : Pending) : (s.setPending p).draws = s.draws := rfl
@[simp] theorem setPending_readPhys (s : State) (p : Pending) (r : PhysReg) : (s.setPending p).readPhys r = s.readPhys r := by cases r <;> rfl

/-! ## advanceDraws -/

@[simp] theorem advanceDraws_g0 (s : State) (n : Nat) : (s.advanceDraws n).g0 = s.g0 := rfl
@[simp] theorem advanceDraws_g1 (s : State) (n : Nat) : (s.advanceDraws n).g1 = s.g1 := rfl
@[simp] theorem advanceDraws_g2 (s : State) (n : Nat) : (s.advanceDraws n).g2 = s.g2 := rfl
@[simp] theorem advanceDraws_g3 (s : State) (n : Nat) : (s.advanceDraws n).g3 = s.g3 := rfl
@[simp] theorem advanceDraws_g4 (s : State) (n : Nat) : (s.advanceDraws n).g4 = s.g4 := rfl
@[simp] theorem advanceDraws_g5 (s : State) (n : Nat) : (s.advanceDraws n).g5 = s.g5 := rfl
@[simp] theorem advanceDraws_g6 (s : State) (n : Nat) : (s.advanceDraws n).g6 = s.g6 := rfl
@[simp] theorem advanceDraws_g7 (s : State) (n : Nat) : (s.advanceDraws n).g7 = s.g7 := rfl
@[simp] theorem advanceDraws_g8 (s : State) (n : Nat) : (s.advanceDraws n).g8 = s.g8 := rfl
@[simp] theorem advanceDraws_g9 (s : State) (n : Nat) : (s.advanceDraws n).g9 = s.g9 := rfl
@[simp] theorem advanceDraws_g10 (s : State) (n : Nat) : (s.advanceDraws n).g10 = s.g10 := rfl
@[simp] theorem advanceDraws_g11 (s : State) (n : Nat) : (s.advanceDraws n).g11 = s.g11 := rfl
@[simp] theorem advanceDraws_fp (s : State) (n : Nat) : (s.advanceDraws n).fp = s.fp := rfl
@[simp] theorem advanceDraws_ssp (s : State) (n : Nat) : (s.advanceDraws n).ssp = s.ssp := rfl
@[simp] theorem advanceDraws_usp (s : State) (n : Nat) : (s.advanceDraws n).usp = s.usp := rfl
@[simp] theorem advanceDraws_pc (s : State) (n : Nat) : (s.advanceDraws n).pc = s.pc := rfl
@[simp] theorem advanceDraws_flag (s : State) (n : Nat) : (s.advanceDraws n).flag = s.flag := rfl
@[simp] theorem advanceDraws_mem (s : State) (n : Nat) : (s.advanceDraws n).mem = s.mem := rfl
@[simp] theorem advanceDraws_tlb (s : State) (n : Nat) : (s.advanceDraws n).tlb = s.tlb := rfl
@[simp] theorem advanceDraws_iplDetached (s : State) (n : Nat) : (s.advanceDraws n).iplDetached = s.iplDetached := rfl
@[simp] theorem advanceDraws_mmuEnabled (s : State) (n : Nat) : (s.advanceDraws n).mmuEnabled = s.mmuEnabled := rfl
@[simp] theorem advanceDraws_violationAddress (s : State) (n : Nat) : (s.advanceDraws n).violationAddress = s.violationAddress := rfl
@[simp] theorem advanceDraws_violationAddressFresh (s : State) (n : Nat) : (s.advanceDraws n).violationAddressFresh = s.violationAddressFresh := rfl
@[simp] theorem advanceDraws_violationCause (s : State) (n : Nat) : (s.advanceDraws n).violationCause = s.violationCause := rfl
@[simp] theorem advanceDraws_violationCauseFresh (s : State) (n : Nat) : (s.advanceDraws n).violationCauseFresh = s.violationCauseFresh := rfl
@[simp] theorem advanceDraws_faultPage (s : State) (n : Nat) : (s.advanceDraws n).faultPage = s.faultPage := rfl
@[simp] theorem advanceDraws_faultPageFresh (s : State) (n : Nat) : (s.advanceDraws n).faultPageFresh = s.faultPageFresh := rfl
@[simp] theorem advanceDraws_halted (s : State) (n : Nat) : (s.advanceDraws n).halted = s.halted := rfl
@[simp] theorem advanceDraws_pending (s : State) (n : Nat) : (s.advanceDraws n).pending = s.pending := rfl
@[simp] theorem advanceDraws_dev (s : State) (n : Nat) : (s.advanceDraws n).dev = s.dev := rfl
@[simp] theorem advanceDraws_trace (s : State) (n : Nat) : (s.advanceDraws n).trace = s.trace := rfl
@[simp] theorem advanceDraws_draws (s : State) (n : Nat) : (s.advanceDraws n).draws = s.draws + n := rfl
@[simp] theorem advanceDraws_readPhys (s : State) (n : Nat) (r : PhysReg) : (s.advanceDraws n).readPhys r = s.readPhys r := by cases r <;> rfl

/-! ## appendTrace -/

@[simp] theorem appendTrace_g0 (s : State) (e : IoEvent) : (s.appendTrace e).g0 = s.g0 := rfl
@[simp] theorem appendTrace_g1 (s : State) (e : IoEvent) : (s.appendTrace e).g1 = s.g1 := rfl
@[simp] theorem appendTrace_g2 (s : State) (e : IoEvent) : (s.appendTrace e).g2 = s.g2 := rfl
@[simp] theorem appendTrace_g3 (s : State) (e : IoEvent) : (s.appendTrace e).g3 = s.g3 := rfl
@[simp] theorem appendTrace_g4 (s : State) (e : IoEvent) : (s.appendTrace e).g4 = s.g4 := rfl
@[simp] theorem appendTrace_g5 (s : State) (e : IoEvent) : (s.appendTrace e).g5 = s.g5 := rfl
@[simp] theorem appendTrace_g6 (s : State) (e : IoEvent) : (s.appendTrace e).g6 = s.g6 := rfl
@[simp] theorem appendTrace_g7 (s : State) (e : IoEvent) : (s.appendTrace e).g7 = s.g7 := rfl
@[simp] theorem appendTrace_g8 (s : State) (e : IoEvent) : (s.appendTrace e).g8 = s.g8 := rfl
@[simp] theorem appendTrace_g9 (s : State) (e : IoEvent) : (s.appendTrace e).g9 = s.g9 := rfl
@[simp] theorem appendTrace_g10 (s : State) (e : IoEvent) : (s.appendTrace e).g10 = s.g10 := rfl
@[simp] theorem appendTrace_g11 (s : State) (e : IoEvent) : (s.appendTrace e).g11 = s.g11 := rfl
@[simp] theorem appendTrace_fp (s : State) (e : IoEvent) : (s.appendTrace e).fp = s.fp := rfl
@[simp] theorem appendTrace_ssp (s : State) (e : IoEvent) : (s.appendTrace e).ssp = s.ssp := rfl
@[simp] theorem appendTrace_usp (s : State) (e : IoEvent) : (s.appendTrace e).usp = s.usp := rfl
@[simp] theorem appendTrace_pc (s : State) (e : IoEvent) : (s.appendTrace e).pc = s.pc := rfl
@[simp] theorem appendTrace_flag (s : State) (e : IoEvent) : (s.appendTrace e).flag = s.flag := rfl
@[simp] theorem appendTrace_mem (s : State) (e : IoEvent) : (s.appendTrace e).mem = s.mem := rfl
@[simp] theorem appendTrace_tlb (s : State) (e : IoEvent) : (s.appendTrace e).tlb = s.tlb := rfl
@[simp] theorem appendTrace_iplDetached (s : State) (e : IoEvent) : (s.appendTrace e).iplDetached = s.iplDetached := rfl
@[simp] theorem appendTrace_mmuEnabled (s : State) (e : IoEvent) : (s.appendTrace e).mmuEnabled = s.mmuEnabled := rfl
@[simp] theorem appendTrace_violationAddress (s : State) (e : IoEvent) : (s.appendTrace e).violationAddress = s.violationAddress := rfl
@[simp] theorem appendTrace_violationAddressFresh (s : State) (e : IoEvent) : (s.appendTrace e).violationAddressFresh = s.violationAddressFresh := rfl
@[simp] theorem appendTrace_violationCause (s : State) (e : IoEvent) : (s.appendTrace e).violationCause = s.violationCause := rfl
@[simp] theorem appendTrace_violationCauseFresh (s : State) (e : IoEvent) : (s.appendTrace e).violationCauseFresh = s.violationCauseFresh := rfl
@[simp] theorem appendTrace_faultPage (s : State) (e : IoEvent) : (s.appendTrace e).faultPage = s.faultPage := rfl
@[simp] theorem appendTrace_faultPageFresh (s : State) (e : IoEvent) : (s.appendTrace e).faultPageFresh = s.faultPageFresh := rfl
@[simp] theorem appendTrace_halted (s : State) (e : IoEvent) : (s.appendTrace e).halted = s.halted := rfl
@[simp] theorem appendTrace_pending (s : State) (e : IoEvent) : (s.appendTrace e).pending = s.pending := rfl
@[simp] theorem appendTrace_dev (s : State) (e : IoEvent) : (s.appendTrace e).dev = s.dev := rfl
@[simp] theorem appendTrace_trace (s : State) (e : IoEvent) : (s.appendTrace e).trace = s.trace ++ [e] := rfl
@[simp] theorem appendTrace_draws (s : State) (e : IoEvent) : (s.appendTrace e).draws = s.draws := rfl
@[simp] theorem appendTrace_readPhys (s : State) (e : IoEvent) (r : PhysReg) : (s.appendTrace e).readPhys r = s.readPhys r := by cases r <;> rfl

/-! ## recordViolation -/

@[simp] theorem recordViolation_g0 (s : State) (a : Word) (c : BitVec 2) : (s.recordViolation a c).g0 = s.g0 := rfl
@[simp] theorem recordViolation_g1 (s : State) (a : Word) (c : BitVec 2) : (s.recordViolation a c).g1 = s.g1 := rfl
@[simp] theorem recordViolation_g2 (s : State) (a : Word) (c : BitVec 2) : (s.recordViolation a c).g2 = s.g2 := rfl
@[simp] theorem recordViolation_g3 (s : State) (a : Word) (c : BitVec 2) : (s.recordViolation a c).g3 = s.g3 := rfl
@[simp] theorem recordViolation_g4 (s : State) (a : Word) (c : BitVec 2) : (s.recordViolation a c).g4 = s.g4 := rfl
@[simp] theorem recordViolation_g5 (s : State) (a : Word) (c : BitVec 2) : (s.recordViolation a c).g5 = s.g5 := rfl
@[simp] theorem recordViolation_g6 (s : State) (a : Word) (c : BitVec 2) : (s.recordViolation a c).g6 = s.g6 := rfl
@[simp] theorem recordViolation_g7 (s : State) (a : Word) (c : BitVec 2) : (s.recordViolation a c).g7 = s.g7 := rfl
@[simp] theorem recordViolation_g8 (s : State) (a : Word) (c : BitVec 2) : (s.recordViolation a c).g8 = s.g8 := rfl
@[simp] theorem recordViolation_g9 (s : State) (a : Word) (c : BitVec 2) : (s.recordViolation a c).g9 = s.g9 := rfl
@[simp] theorem recordViolation_g10 (s : State) (a : Word) (c : BitVec 2) : (s.recordViolation a c).g10 = s.g10 := rfl
@[simp] theorem recordViolation_g11 (s : State) (a : Word) (c : BitVec 2) : (s.recordViolation a c).g11 = s.g11 := rfl
@[simp] theorem recordViolation_fp (s : State) (a : Word) (c : BitVec 2) : (s.recordViolation a c).fp = s.fp := rfl
@[simp] theorem recordViolation_ssp (s : State) (a : Word) (c : BitVec 2) : (s.recordViolation a c).ssp = s.ssp := rfl
@[simp] theorem recordViolation_usp (s : State) (a : Word) (c : BitVec 2) : (s.recordViolation a c).usp = s.usp := rfl
@[simp] theorem recordViolation_pc (s : State) (a : Word) (c : BitVec 2) : (s.recordViolation a c).pc = s.pc := rfl
@[simp] theorem recordViolation_flag (s : State) (a : Word) (c : BitVec 2) : (s.recordViolation a c).flag = s.flag := rfl
@[simp] theorem recordViolation_mem (s : State) (a : Word) (c : BitVec 2) : (s.recordViolation a c).mem = s.mem := rfl
@[simp] theorem recordViolation_tlb (s : State) (a : Word) (c : BitVec 2) : (s.recordViolation a c).tlb = s.tlb := rfl
@[simp] theorem recordViolation_iplDetached (s : State) (a : Word) (c : BitVec 2) : (s.recordViolation a c).iplDetached = s.iplDetached := rfl
@[simp] theorem recordViolation_mmuEnabled (s : State) (a : Word) (c : BitVec 2) : (s.recordViolation a c).mmuEnabled = s.mmuEnabled := rfl
@[simp] theorem recordViolation_violationAddress (s : State) (a : Word) (c : BitVec 2) : (s.recordViolation a c).violationAddress = a := rfl
@[simp] theorem recordViolation_violationAddressFresh (s : State) (a : Word) (c : BitVec 2) : (s.recordViolation a c).violationAddressFresh = true := rfl
@[simp] theorem recordViolation_violationCause (s : State) (a : Word) (c : BitVec 2) : (s.recordViolation a c).violationCause = c := rfl
@[simp] theorem recordViolation_violationCauseFresh (s : State) (a : Word) (c : BitVec 2) : (s.recordViolation a c).violationCauseFresh = true := rfl
@[simp] theorem recordViolation_faultPage (s : State) (a : Word) (c : BitVec 2) : (s.recordViolation a c).faultPage = s.faultPage := rfl
@[simp] theorem recordViolation_faultPageFresh (s : State) (a : Word) (c : BitVec 2) : (s.recordViolation a c).faultPageFresh = s.faultPageFresh := rfl
@[simp] theorem recordViolation_halted (s : State) (a : Word) (c : BitVec 2) : (s.recordViolation a c).halted = s.halted := rfl
@[simp] theorem recordViolation_pending (s : State) (a : Word) (c : BitVec 2) : (s.recordViolation a c).pending = s.pending := rfl
@[simp] theorem recordViolation_dev (s : State) (a : Word) (c : BitVec 2) : (s.recordViolation a c).dev = s.dev := rfl
@[simp] theorem recordViolation_trace (s : State) (a : Word) (c : BitVec 2) : (s.recordViolation a c).trace = s.trace := rfl
@[simp] theorem recordViolation_draws (s : State) (a : Word) (c : BitVec 2) : (s.recordViolation a c).draws = s.draws := rfl
@[simp] theorem recordViolation_readPhys (s : State) (a : Word) (c : BitVec 2) (r : PhysReg) : (s.recordViolation a c).readPhys r = s.readPhys r := by cases r <;> rfl

/-! ## recordFaultPage -/

@[simp] theorem recordFaultPage_g0 (s : State) (p : Byte) : (s.recordFaultPage p).g0 = s.g0 := rfl
@[simp] theorem recordFaultPage_g1 (s : State) (p : Byte) : (s.recordFaultPage p).g1 = s.g1 := rfl
@[simp] theorem recordFaultPage_g2 (s : State) (p : Byte) : (s.recordFaultPage p).g2 = s.g2 := rfl
@[simp] theorem recordFaultPage_g3 (s : State) (p : Byte) : (s.recordFaultPage p).g3 = s.g3 := rfl
@[simp] theorem recordFaultPage_g4 (s : State) (p : Byte) : (s.recordFaultPage p).g4 = s.g4 := rfl
@[simp] theorem recordFaultPage_g5 (s : State) (p : Byte) : (s.recordFaultPage p).g5 = s.g5 := rfl
@[simp] theorem recordFaultPage_g6 (s : State) (p : Byte) : (s.recordFaultPage p).g6 = s.g6 := rfl
@[simp] theorem recordFaultPage_g7 (s : State) (p : Byte) : (s.recordFaultPage p).g7 = s.g7 := rfl
@[simp] theorem recordFaultPage_g8 (s : State) (p : Byte) : (s.recordFaultPage p).g8 = s.g8 := rfl
@[simp] theorem recordFaultPage_g9 (s : State) (p : Byte) : (s.recordFaultPage p).g9 = s.g9 := rfl
@[simp] theorem recordFaultPage_g10 (s : State) (p : Byte) : (s.recordFaultPage p).g10 = s.g10 := rfl
@[simp] theorem recordFaultPage_g11 (s : State) (p : Byte) : (s.recordFaultPage p).g11 = s.g11 := rfl
@[simp] theorem recordFaultPage_fp (s : State) (p : Byte) : (s.recordFaultPage p).fp = s.fp := rfl
@[simp] theorem recordFaultPage_ssp (s : State) (p : Byte) : (s.recordFaultPage p).ssp = s.ssp := rfl
@[simp] theorem recordFaultPage_usp (s : State) (p : Byte) : (s.recordFaultPage p).usp = s.usp := rfl
@[simp] theorem recordFaultPage_pc (s : State) (p : Byte) : (s.recordFaultPage p).pc = s.pc := rfl
@[simp] theorem recordFaultPage_flag (s : State) (p : Byte) : (s.recordFaultPage p).flag = s.flag := rfl
@[simp] theorem recordFaultPage_mem (s : State) (p : Byte) : (s.recordFaultPage p).mem = s.mem := rfl
@[simp] theorem recordFaultPage_tlb (s : State) (p : Byte) : (s.recordFaultPage p).tlb = s.tlb := rfl
@[simp] theorem recordFaultPage_iplDetached (s : State) (p : Byte) : (s.recordFaultPage p).iplDetached = s.iplDetached := rfl
@[simp] theorem recordFaultPage_mmuEnabled (s : State) (p : Byte) : (s.recordFaultPage p).mmuEnabled = s.mmuEnabled := rfl
@[simp] theorem recordFaultPage_violationAddress (s : State) (p : Byte) : (s.recordFaultPage p).violationAddress = s.violationAddress := rfl
@[simp] theorem recordFaultPage_violationAddressFresh (s : State) (p : Byte) : (s.recordFaultPage p).violationAddressFresh = s.violationAddressFresh := rfl
@[simp] theorem recordFaultPage_violationCause (s : State) (p : Byte) : (s.recordFaultPage p).violationCause = s.violationCause := rfl
@[simp] theorem recordFaultPage_violationCauseFresh (s : State) (p : Byte) : (s.recordFaultPage p).violationCauseFresh = s.violationCauseFresh := rfl
@[simp] theorem recordFaultPage_faultPage (s : State) (p : Byte) : (s.recordFaultPage p).faultPage = p := rfl
@[simp] theorem recordFaultPage_faultPageFresh (s : State) (p : Byte) : (s.recordFaultPage p).faultPageFresh = true := rfl
@[simp] theorem recordFaultPage_halted (s : State) (p : Byte) : (s.recordFaultPage p).halted = s.halted := rfl
@[simp] theorem recordFaultPage_pending (s : State) (p : Byte) : (s.recordFaultPage p).pending = s.pending := rfl
@[simp] theorem recordFaultPage_dev (s : State) (p : Byte) : (s.recordFaultPage p).dev = s.dev := rfl
@[simp] theorem recordFaultPage_trace (s : State) (p : Byte) : (s.recordFaultPage p).trace = s.trace := rfl
@[simp] theorem recordFaultPage_draws (s : State) (p : Byte) : (s.recordFaultPage p).draws = s.draws := rfl
@[simp] theorem recordFaultPage_readPhys (s : State) (p : Byte) (r : PhysReg) : (s.recordFaultPage p).readPhys r = s.readPhys r := by cases r <;> rfl

/-! ## violationAddressRead -/

@[simp] theorem violationAddressRead_g0 (s : State) : (s.violationAddressRead).g0 = s.g0 := rfl
@[simp] theorem violationAddressRead_g1 (s : State) : (s.violationAddressRead).g1 = s.g1 := rfl
@[simp] theorem violationAddressRead_g2 (s : State) : (s.violationAddressRead).g2 = s.g2 := rfl
@[simp] theorem violationAddressRead_g3 (s : State) : (s.violationAddressRead).g3 = s.g3 := rfl
@[simp] theorem violationAddressRead_g4 (s : State) : (s.violationAddressRead).g4 = s.g4 := rfl
@[simp] theorem violationAddressRead_g5 (s : State) : (s.violationAddressRead).g5 = s.g5 := rfl
@[simp] theorem violationAddressRead_g6 (s : State) : (s.violationAddressRead).g6 = s.g6 := rfl
@[simp] theorem violationAddressRead_g7 (s : State) : (s.violationAddressRead).g7 = s.g7 := rfl
@[simp] theorem violationAddressRead_g8 (s : State) : (s.violationAddressRead).g8 = s.g8 := rfl
@[simp] theorem violationAddressRead_g9 (s : State) : (s.violationAddressRead).g9 = s.g9 := rfl
@[simp] theorem violationAddressRead_g10 (s : State) : (s.violationAddressRead).g10 = s.g10 := rfl
@[simp] theorem violationAddressRead_g11 (s : State) : (s.violationAddressRead).g11 = s.g11 := rfl
@[simp] theorem violationAddressRead_fp (s : State) : (s.violationAddressRead).fp = s.fp := rfl
@[simp] theorem violationAddressRead_ssp (s : State) : (s.violationAddressRead).ssp = s.ssp := rfl
@[simp] theorem violationAddressRead_usp (s : State) : (s.violationAddressRead).usp = s.usp := rfl
@[simp] theorem violationAddressRead_pc (s : State) : (s.violationAddressRead).pc = s.pc := rfl
@[simp] theorem violationAddressRead_flag (s : State) : (s.violationAddressRead).flag = s.flag := rfl
@[simp] theorem violationAddressRead_mem (s : State) : (s.violationAddressRead).mem = s.mem := rfl
@[simp] theorem violationAddressRead_tlb (s : State) : (s.violationAddressRead).tlb = s.tlb := rfl
@[simp] theorem violationAddressRead_iplDetached (s : State) : (s.violationAddressRead).iplDetached = s.iplDetached := rfl
@[simp] theorem violationAddressRead_mmuEnabled (s : State) : (s.violationAddressRead).mmuEnabled = s.mmuEnabled := rfl
@[simp] theorem violationAddressRead_violationAddress (s : State) : (s.violationAddressRead).violationAddress = s.violationAddress := rfl
@[simp] theorem violationAddressRead_violationAddressFresh (s : State) : (s.violationAddressRead).violationAddressFresh = false := rfl
@[simp] theorem violationAddressRead_violationCause (s : State) : (s.violationAddressRead).violationCause = s.violationCause := rfl
@[simp] theorem violationAddressRead_violationCauseFresh (s : State) : (s.violationAddressRead).violationCauseFresh = s.violationCauseFresh := rfl
@[simp] theorem violationAddressRead_faultPage (s : State) : (s.violationAddressRead).faultPage = s.faultPage := rfl
@[simp] theorem violationAddressRead_faultPageFresh (s : State) : (s.violationAddressRead).faultPageFresh = s.faultPageFresh := rfl
@[simp] theorem violationAddressRead_halted (s : State) : (s.violationAddressRead).halted = s.halted := rfl
@[simp] theorem violationAddressRead_pending (s : State) : (s.violationAddressRead).pending = s.pending := rfl
@[simp] theorem violationAddressRead_dev (s : State) : (s.violationAddressRead).dev = s.dev := rfl
@[simp] theorem violationAddressRead_trace (s : State) : (s.violationAddressRead).trace = s.trace := rfl
@[simp] theorem violationAddressRead_draws (s : State) : (s.violationAddressRead).draws = s.draws := rfl
@[simp] theorem violationAddressRead_readPhys (s : State) (r : PhysReg) : (s.violationAddressRead).readPhys r = s.readPhys r := by cases r <;> rfl

/-! ## violationCauseRead -/

@[simp] theorem violationCauseRead_g0 (s : State) : (s.violationCauseRead).g0 = s.g0 := rfl
@[simp] theorem violationCauseRead_g1 (s : State) : (s.violationCauseRead).g1 = s.g1 := rfl
@[simp] theorem violationCauseRead_g2 (s : State) : (s.violationCauseRead).g2 = s.g2 := rfl
@[simp] theorem violationCauseRead_g3 (s : State) : (s.violationCauseRead).g3 = s.g3 := rfl
@[simp] theorem violationCauseRead_g4 (s : State) : (s.violationCauseRead).g4 = s.g4 := rfl
@[simp] theorem violationCauseRead_g5 (s : State) : (s.violationCauseRead).g5 = s.g5 := rfl
@[simp] theorem violationCauseRead_g6 (s : State) : (s.violationCauseRead).g6 = s.g6 := rfl
@[simp] theorem violationCauseRead_g7 (s : State) : (s.violationCauseRead).g7 = s.g7 := rfl
@[simp] theorem violationCauseRead_g8 (s : State) : (s.violationCauseRead).g8 = s.g8 := rfl
@[simp] theorem violationCauseRead_g9 (s : State) : (s.violationCauseRead).g9 = s.g9 := rfl
@[simp] theorem violationCauseRead_g10 (s : State) : (s.violationCauseRead).g10 = s.g10 := rfl
@[simp] theorem violationCauseRead_g11 (s : State) : (s.violationCauseRead).g11 = s.g11 := rfl
@[simp] theorem violationCauseRead_fp (s : State) : (s.violationCauseRead).fp = s.fp := rfl
@[simp] theorem violationCauseRead_ssp (s : State) : (s.violationCauseRead).ssp = s.ssp := rfl
@[simp] theorem violationCauseRead_usp (s : State) : (s.violationCauseRead).usp = s.usp := rfl
@[simp] theorem violationCauseRead_pc (s : State) : (s.violationCauseRead).pc = s.pc := rfl
@[simp] theorem violationCauseRead_flag (s : State) : (s.violationCauseRead).flag = s.flag := rfl
@[simp] theorem violationCauseRead_mem (s : State) : (s.violationCauseRead).mem = s.mem := rfl
@[simp] theorem violationCauseRead_tlb (s : State) : (s.violationCauseRead).tlb = s.tlb := rfl
@[simp] theorem violationCauseRead_iplDetached (s : State) : (s.violationCauseRead).iplDetached = s.iplDetached := rfl
@[simp] theorem violationCauseRead_mmuEnabled (s : State) : (s.violationCauseRead).mmuEnabled = s.mmuEnabled := rfl
@[simp] theorem violationCauseRead_violationAddress (s : State) : (s.violationCauseRead).violationAddress = s.violationAddress := rfl
@[simp] theorem violationCauseRead_violationAddressFresh (s : State) : (s.violationCauseRead).violationAddressFresh = s.violationAddressFresh := rfl
@[simp] theorem violationCauseRead_violationCause (s : State) : (s.violationCauseRead).violationCause = s.violationCause := rfl
@[simp] theorem violationCauseRead_violationCauseFresh (s : State) : (s.violationCauseRead).violationCauseFresh = false := rfl
@[simp] theorem violationCauseRead_faultPage (s : State) : (s.violationCauseRead).faultPage = s.faultPage := rfl
@[simp] theorem violationCauseRead_faultPageFresh (s : State) : (s.violationCauseRead).faultPageFresh = s.faultPageFresh := rfl
@[simp] theorem violationCauseRead_halted (s : State) : (s.violationCauseRead).halted = s.halted := rfl
@[simp] theorem violationCauseRead_pending (s : State) : (s.violationCauseRead).pending = s.pending := rfl
@[simp] theorem violationCauseRead_dev (s : State) : (s.violationCauseRead).dev = s.dev := rfl
@[simp] theorem violationCauseRead_trace (s : State) : (s.violationCauseRead).trace = s.trace := rfl
@[simp] theorem violationCauseRead_draws (s : State) : (s.violationCauseRead).draws = s.draws := rfl
@[simp] theorem violationCauseRead_readPhys (s : State) (r : PhysReg) : (s.violationCauseRead).readPhys r = s.readPhys r := by cases r <;> rfl

/-! ## faultPageRead -/

@[simp] theorem faultPageRead_g0 (s : State) : (s.faultPageRead).g0 = s.g0 := rfl
@[simp] theorem faultPageRead_g1 (s : State) : (s.faultPageRead).g1 = s.g1 := rfl
@[simp] theorem faultPageRead_g2 (s : State) : (s.faultPageRead).g2 = s.g2 := rfl
@[simp] theorem faultPageRead_g3 (s : State) : (s.faultPageRead).g3 = s.g3 := rfl
@[simp] theorem faultPageRead_g4 (s : State) : (s.faultPageRead).g4 = s.g4 := rfl
@[simp] theorem faultPageRead_g5 (s : State) : (s.faultPageRead).g5 = s.g5 := rfl
@[simp] theorem faultPageRead_g6 (s : State) : (s.faultPageRead).g6 = s.g6 := rfl
@[simp] theorem faultPageRead_g7 (s : State) : (s.faultPageRead).g7 = s.g7 := rfl
@[simp] theorem faultPageRead_g8 (s : State) : (s.faultPageRead).g8 = s.g8 := rfl
@[simp] theorem faultPageRead_g9 (s : State) : (s.faultPageRead).g9 = s.g9 := rfl
@[simp] theorem faultPageRead_g10 (s : State) : (s.faultPageRead).g10 = s.g10 := rfl
@[simp] theorem faultPageRead_g11 (s : State) : (s.faultPageRead).g11 = s.g11 := rfl
@[simp] theorem faultPageRead_fp (s : State) : (s.faultPageRead).fp = s.fp := rfl
@[simp] theorem faultPageRead_ssp (s : State) : (s.faultPageRead).ssp = s.ssp := rfl
@[simp] theorem faultPageRead_usp (s : State) : (s.faultPageRead).usp = s.usp := rfl
@[simp] theorem faultPageRead_pc (s : State) : (s.faultPageRead).pc = s.pc := rfl
@[simp] theorem faultPageRead_flag (s : State) : (s.faultPageRead).flag = s.flag := rfl
@[simp] theorem faultPageRead_mem (s : State) : (s.faultPageRead).mem = s.mem := rfl
@[simp] theorem faultPageRead_tlb (s : State) : (s.faultPageRead).tlb = s.tlb := rfl
@[simp] theorem faultPageRead_iplDetached (s : State) : (s.faultPageRead).iplDetached = s.iplDetached := rfl
@[simp] theorem faultPageRead_mmuEnabled (s : State) : (s.faultPageRead).mmuEnabled = s.mmuEnabled := rfl
@[simp] theorem faultPageRead_violationAddress (s : State) : (s.faultPageRead).violationAddress = s.violationAddress := rfl
@[simp] theorem faultPageRead_violationAddressFresh (s : State) : (s.faultPageRead).violationAddressFresh = s.violationAddressFresh := rfl
@[simp] theorem faultPageRead_violationCause (s : State) : (s.faultPageRead).violationCause = s.violationCause := rfl
@[simp] theorem faultPageRead_violationCauseFresh (s : State) : (s.faultPageRead).violationCauseFresh = s.violationCauseFresh := rfl
@[simp] theorem faultPageRead_faultPage (s : State) : (s.faultPageRead).faultPage = s.faultPage := rfl
@[simp] theorem faultPageRead_faultPageFresh (s : State) : (s.faultPageRead).faultPageFresh = false := rfl
@[simp] theorem faultPageRead_halted (s : State) : (s.faultPageRead).halted = s.halted := rfl
@[simp] theorem faultPageRead_pending (s : State) : (s.faultPageRead).pending = s.pending := rfl
@[simp] theorem faultPageRead_dev (s : State) : (s.faultPageRead).dev = s.dev := rfl
@[simp] theorem faultPageRead_trace (s : State) : (s.faultPageRead).trace = s.trace := rfl
@[simp] theorem faultPageRead_draws (s : State) : (s.faultPageRead).draws = s.draws := rfl
@[simp] theorem faultPageRead_readPhys (s : State) (r : PhysReg) : (s.faultPageRead).readPhys r = s.readPhys r := by cases r <;> rfl

/-! ## writePhys: what is no register stays -/

@[simp] theorem writePhys_pc (s : State) (r : PhysReg) (v : Word) : (s.writePhys r v).pc = s.pc := by cases r <;> rfl
@[simp] theorem writeReg_pc (s : State) (r : Reg) (v : Word) : (s.writeReg r v).pc = s.pc := writePhys_pc s _ v
@[simp] theorem writePhys_mem (s : State) (r : PhysReg) (v : Word) : (s.writePhys r v).mem = s.mem := by cases r <;> rfl
@[simp] theorem writeReg_mem (s : State) (r : Reg) (v : Word) : (s.writeReg r v).mem = s.mem := writePhys_mem s _ v
@[simp] theorem writePhys_tlb (s : State) (r : PhysReg) (v : Word) : (s.writePhys r v).tlb = s.tlb := by cases r <;> rfl
@[simp] theorem writeReg_tlb (s : State) (r : Reg) (v : Word) : (s.writeReg r v).tlb = s.tlb := writePhys_tlb s _ v
@[simp] theorem writePhys_iplDetached (s : State) (r : PhysReg) (v : Word) : (s.writePhys r v).iplDetached = s.iplDetached := by cases r <;> rfl
@[simp] theorem writeReg_iplDetached (s : State) (r : Reg) (v : Word) : (s.writeReg r v).iplDetached = s.iplDetached := writePhys_iplDetached s _ v
@[simp] theorem writePhys_mmuEnabled (s : State) (r : PhysReg) (v : Word) : (s.writePhys r v).mmuEnabled = s.mmuEnabled := by cases r <;> rfl
@[simp] theorem writeReg_mmuEnabled (s : State) (r : Reg) (v : Word) : (s.writeReg r v).mmuEnabled = s.mmuEnabled := writePhys_mmuEnabled s _ v
@[simp] theorem writePhys_violationAddress (s : State) (r : PhysReg) (v : Word) : (s.writePhys r v).violationAddress = s.violationAddress := by cases r <;> rfl
@[simp] theorem writeReg_violationAddress (s : State) (r : Reg) (v : Word) : (s.writeReg r v).violationAddress = s.violationAddress := writePhys_violationAddress s _ v
@[simp] theorem writePhys_violationAddressFresh (s : State) (r : PhysReg) (v : Word) : (s.writePhys r v).violationAddressFresh = s.violationAddressFresh := by cases r <;> rfl
@[simp] theorem writeReg_violationAddressFresh (s : State) (r : Reg) (v : Word) : (s.writeReg r v).violationAddressFresh = s.violationAddressFresh := writePhys_violationAddressFresh s _ v
@[simp] theorem writePhys_violationCause (s : State) (r : PhysReg) (v : Word) : (s.writePhys r v).violationCause = s.violationCause := by cases r <;> rfl
@[simp] theorem writeReg_violationCause (s : State) (r : Reg) (v : Word) : (s.writeReg r v).violationCause = s.violationCause := writePhys_violationCause s _ v
@[simp] theorem writePhys_violationCauseFresh (s : State) (r : PhysReg) (v : Word) : (s.writePhys r v).violationCauseFresh = s.violationCauseFresh := by cases r <;> rfl
@[simp] theorem writeReg_violationCauseFresh (s : State) (r : Reg) (v : Word) : (s.writeReg r v).violationCauseFresh = s.violationCauseFresh := writePhys_violationCauseFresh s _ v
@[simp] theorem writePhys_faultPage (s : State) (r : PhysReg) (v : Word) : (s.writePhys r v).faultPage = s.faultPage := by cases r <;> rfl
@[simp] theorem writeReg_faultPage (s : State) (r : Reg) (v : Word) : (s.writeReg r v).faultPage = s.faultPage := writePhys_faultPage s _ v
@[simp] theorem writePhys_faultPageFresh (s : State) (r : PhysReg) (v : Word) : (s.writePhys r v).faultPageFresh = s.faultPageFresh := by cases r <;> rfl
@[simp] theorem writeReg_faultPageFresh (s : State) (r : Reg) (v : Word) : (s.writeReg r v).faultPageFresh = s.faultPageFresh := writePhys_faultPageFresh s _ v
@[simp] theorem writePhys_halted (s : State) (r : PhysReg) (v : Word) : (s.writePhys r v).halted = s.halted := by cases r <;> rfl
@[simp] theorem writeReg_halted (s : State) (r : Reg) (v : Word) : (s.writeReg r v).halted = s.halted := writePhys_halted s _ v
@[simp] theorem writePhys_pending (s : State) (r : PhysReg) (v : Word) : (s.writePhys r v).pending = s.pending := by cases r <;> rfl
@[simp] theorem writeReg_pending (s : State) (r : Reg) (v : Word) : (s.writeReg r v).pending = s.pending := writePhys_pending s _ v
@[simp] theorem writePhys_dev (s : State) (r : PhysReg) (v : Word) : (s.writePhys r v).dev = s.dev := by cases r <;> rfl
@[simp] theorem writeReg_dev (s : State) (r : Reg) (v : Word) : (s.writeReg r v).dev = s.dev := writePhys_dev s _ v
@[simp] theorem writePhys_trace (s : State) (r : PhysReg) (v : Word) : (s.writePhys r v).trace = s.trace := by cases r <;> rfl
@[simp] theorem writeReg_trace (s : State) (r : Reg) (v : Word) : (s.writeReg r v).trace = s.trace := writePhys_trace s _ v
@[simp] theorem writePhys_draws (s : State) (r : PhysReg) (v : Word) : (s.writePhys r v).draws = s.draws := by cases r <;> rfl
@[simp] theorem writeReg_draws (s : State) (r : Reg) (v : Word) : (s.writeReg r v).draws = s.draws := writePhys_draws s _ v

end Sys2Proof.Machine
end

