-- ==== Sys2Proof/Laws/Memory.lean ====
section
/-! SUPPORT. Laws of memory: read after write for any list of cells, the canonical form kept by every operation, words as
two bytes. -/

namespace Sys2Proof.Machine

/-! ## One byte -/

theorem readMem_eraseCell (m : Memory) (x y : Nat) :
    readMem (eraseCell m x) y = if y = x then unlistedByte else readMem m y := by
  induction m with
  | nil => simp [eraseCell, readMem]
  | cons c m ih =>
    obtain ⟨a, b⟩ := c
    by_cases h : a = x
    · subst h
      have he : eraseCell ((a, b) :: m) a = eraseCell m a := by simp [eraseCell]
      rw [he, ih]
      by_cases hy : y = a
      · simp [hy]
      · simp [hy, readMem, Ne.symm hy]
    · have he : eraseCell ((a, b) :: m) x = (a, b) :: eraseCell m x := by simp [eraseCell, h]
      rw [he]
      simp only [readMem, ih]
      by_cases hy : a = y
      · subst hy; simp [h]
      · simp [hy]

theorem readMem_insertCell (m : Memory) (x y : Nat) (v : Byte) (h : ∀ c ∈ m, c.1 ≠ x) :
    readMem (insertCell m x v) y = if y = x then v else readMem m y := by
  induction m with
  | nil =>
    by_cases hy : y = x
    · simp [insertCell, readMem, hy]
    · simp [insertCell, readMem, hy, Ne.symm hy]
  | cons c m ih =>
    obtain ⟨a, b⟩ := c
    have ha : a ≠ x := h (a, b) (by simp)
    have ih' := ih fun c hc => h c (by simp [hc])
    unfold insertCell
    split
    · by_cases hy : y = x
      · simp [readMem, hy]
      · simp [readMem, hy, Ne.symm hy]
    · simp only [readMem, ih']
      by_cases hy : a = y
      · subst hy; simp [ha]
      · simp [hy]

/-- Read after write: the written byte, and every other byte as before. -/
theorem readMem_writeMem (m : Memory) (x y : Nat) (v : Byte) :
    readMem (writeMem m x v) y = if y = x then v else readMem m y := by
  unfold writeMem
  split
  · rename_i h; rw [readMem_eraseCell, h]
  · rw [readMem_insertCell]
    · rw [readMem_eraseCell]; split <;> simp_all
    · intro c hc; simp [eraseCell] at hc; exact hc.2

/-! ## The canonical form -/

theorem memWfFrom_mono {lo lo' : Nat} (h : lo' ≤ lo) : ∀ {m : Memory}, memWfFrom lo m = true → memWfFrom lo' m = true
  | [], _ => rfl
  | (a, b) :: m, hm => by
    simp only [memWfFrom, Bool.and_eq_true, decide_eq_true_eq] at hm ⊢
    exact ⟨⟨⟨h.trans hm.1.1.1, hm.1.1.2⟩, hm.1.2⟩, hm.2⟩

theorem memWfFrom_eraseCell (x : Nat) : ∀ {m : Memory} {lo : Nat}, memWfFrom lo m = true →
    memWfFrom lo (eraseCell m x) = true
  | [], _, _ => rfl
  | (a, b) :: m, lo, hm => by
    simp only [memWfFrom, Bool.and_eq_true, decide_eq_true_eq] at hm
    have ih := memWfFrom_eraseCell x hm.2
    by_cases h : a = x
    · have he : eraseCell ((a, b) :: m) x = eraseCell m x := by simp [eraseCell, h]
      rw [he]; exact memWfFrom_mono (by omega) ih
    · have he : eraseCell ((a, b) :: m) x = (a, b) :: eraseCell m x := by simp [eraseCell, h]
      rw [he]; simp only [memWfFrom, Bool.and_eq_true, decide_eq_true_eq]; exact ⟨hm.1, ih⟩

theorem memWfFrom_insertCell {x : Nat} {v : Byte} (hx : x < 65536) (hv : v ≠ unlistedByte) :
    ∀ {m : Memory} {lo : Nat}, lo ≤ x → (∀ c ∈ m, c.1 ≠ x) → memWfFrom lo m = true →
      memWfFrom lo (insertCell m x v) = true
  | [], lo, hlo, _, _ => by simp [insertCell, memWfFrom, hx, hv, hlo]
  | (a, b) :: m, lo, hlo, hne, hm => by
    simp only [memWfFrom, Bool.and_eq_true, decide_eq_true_eq] at hm
    have ha : a ≠ x := hne (a, b) (by simp)
    unfold insertCell
    split
    · rename_i h
      simp only [memWfFrom, Bool.and_eq_true, decide_eq_true_eq]
      exact ⟨⟨⟨hlo, hx⟩, hv⟩, ⟨⟨h, hm.1.1.2⟩, hm.1.2⟩, hm.2⟩
    · simp only [memWfFrom, Bool.and_eq_true, decide_eq_true_eq]
      exact ⟨hm.1, memWfFrom_insertCell hx hv (by omega) (fun c hc => hne c (by simp [hc])) hm.2⟩

/-- A write keeps the canonical form. -/
theorem wf_writeMem {m : Memory} {x : Nat} {v : Byte} (hx : x < 65536) (h : Memory.wf m = true) :
    Memory.wf (writeMem m x v) = true := by
  unfold writeMem
  split
  · exact memWfFrom_eraseCell x h
  · rename_i hv
    refine memWfFrom_insertCell hx hv (Nat.zero_le _) ?_ (memWfFrom_eraseCell x h)
    intro c hc; simp [eraseCell] at hc; exact hc.2

theorem wf_storeByte {s : State} (pa : Word) (b : Byte) (h : Memory.wf s.mem = true) :
    Memory.wf (s.storeByte pa b).mem = true := wf_writeMem pa.isLt h

theorem wf_storeWord {s : State} (pa v : Word) (h : Memory.wf s.mem = true) :
    Memory.wf (s.storeWord pa v).mem = true := wf_storeByte _ _ (wf_storeByte _ _ h)

theorem wf_agentsWrite (time : Nat) : ∀ {cells : List Word} {m : Memory}, Memory.wf m = true →
    Memory.wf (agentsWrite time m cells) = true
  | [], _, h => h
  | a :: cells, _, h => wf_agentsWrite time (cells := cells) (wf_writeMem a.isLt h)

/-- Drawn bytes at some addresses leave every other address. -/
theorem readMem_agentsWrite (time : Nat) {a : Word} : ∀ {cells : List Word} {m : Memory}, a ∉ cells →
    readMem (agentsWrite time m cells) a.toNat = readMem m a.toNat
  | [], _, _ => rfl
  | c :: cells, m, h => by
    simp only [List.mem_cons, not_or] at h
    have hne : a.toNat ≠ c.toNat := fun e => h.1 (BitVec.eq_of_toNat_eq e)
    exact (readMem_agentsWrite time h.2).trans (by rw [readMem_writeMem, if_neg hne])

theorem wf_storeBytes : ∀ {bs : List Byte} {m : Memory} {a : Word}, Memory.wf m = true →
    Memory.wf (storeBytes m a bs) = true
  | [], _, _, h => h
  | b :: bs, m, a, h => wf_storeBytes (bs := bs) (m := writeMem m a.toNat b) (a := a + 1) (wf_writeMem a.isLt h)

/-- Placing an instruction keeps the canonical form. -/
theorem wf_withFetchWord {s : State} (nbits w : Nat) (h : Memory.wf s.mem = true) :
    Memory.wf (s.withFetchWord nbits w).mem = true := wf_storeBytes h

theorem wf_reset : Memory.wf State.reset.mem = true := rfl

/-! ## Physical bytes and words -/

@[simp] theorem storeByte_romShown (s : State) (pa : Word) (b : Byte) (a : Word) :
    (s.storeByte pa b).romShown a = s.romShown a := rfl

@[simp] theorem storeWord_romShown (s : State) (pa v : Word) (a : Word) :
    (s.storeWord pa v).romShown a = s.romShown a := rfl

theorem storeByte_eq (s : State) (pa : Word) (b : Byte) : s.storeByte pa b = s.setMem (s.storeByte pa b).mem := rfl

theorem storeWord_eq (s : State) (pa v : Word) : s.storeWord pa v = s.setMem (s.storeWord pa v).mem := rfl

/-- A byte read after a byte store: under the ROM as before, the stored byte at its address, any other as before. -/
theorem physByte_storeByte (s : State) (pa a : Word) (b : Byte) :
    (s.storeByte pa b).physByte a = if a = pa ∧ s.romShown pa = false then b else s.physByte a := by
  unfold State.physByte
  rw [storeByte_romShown]
  by_cases hr : s.romShown a = true
  · have : ¬(a = pa ∧ s.romShown pa = false) := by rintro ⟨rfl, h⟩; simp [h] at hr
    simp [hr, this]
  · have hr' : s.romShown a = false := by simpa using hr
    simp only [hr', State.storeByte, setMem_mem, readMem_writeMem]
    by_cases h : a = pa
    · subst h; simp [hr']
    · have : a.toNat ≠ pa.toNat := fun e => h (BitVec.eq_of_toNat_eq e)
      simp [h, this]

/-- Bit 0 is the parity. -/
theorem even_iff {a : Word} : a.getLsbD 0 = false ↔ a.toNat % 2 = 0 := by
  simp only [BitVec.getLsbD, Nat.testBit_zero, decide_eq_false_iff_not]; omega

/-- The address after an even one. -/
theorem toNat_succ_of_even {pa : Word} (h : pa.getLsbD 0 = false) : (pa + 1).toNat = pa.toNat + 1 := by
  have h1 := even_iff.1 h
  have := pa.isLt
  rw [BitVec.toNat_add, show (1 : Word).toNat = 1 from rfl]; omega

theorem succ_ne (pa : Word) : pa + 1 ≠ pa := by
  intro h; have := congrArg BitVec.toNat h
  rw [BitVec.toNat_add, show (1 : Word).toNat = 1 from rfl] at this
  have := pa.isLt; omega

/-- The ROM shows both bytes of an aligned word or neither. -/
theorem romShown_succ_of_even (s : State) {pa : Word} (h : pa.getLsbD 0 = false) :
    s.romShown (pa + 1) = s.romShown pa := by
  have h1 := even_iff.1 h
  simp only [State.romShown, inIplRange, toNat_succ_of_even h]
  congr 1
  simp only [decide_eq_decide]; omega

@[simp] theorem wordOfBytes_hi_lo (w : Word) : wordOfBytes (hiByte w) (loByte w) = w := by
  apply BitVec.eq_of_getLsbD_eq
  intro i hi
  simp only [wordOfBytes, hiByte, loByte, BitVec.getLsbD_append, BitVec.getLsbD_extractLsb']
  by_cases h : i < 8
  · simp [h]
  · have h2 : i - 8 < 8 := by omega
    have h3 : 8 + (i - 8) = i := by omega
    simp [h, h2, h3]

@[simp] theorem hiByte_wordOfBytes (h l : Byte) : hiByte (wordOfBytes h l) = h := by
  ext i hi
  simp only [wordOfBytes, hiByte, BitVec.getElem_extractLsb', BitVec.getLsbD_append]
  have : ¬(8 + i < 8) := by omega
  simp [this, hi]

@[simp] theorem loByte_wordOfBytes (h l : Byte) : loByte (wordOfBytes h l) = l := by
  ext i hi
  simp only [wordOfBytes, loByte, BitVec.getElem_extractLsb', BitVec.getLsbD_append]
  simp [hi]

/-- A byte read after a word store. -/
theorem physByte_storeWord (s : State) (pa a v : Word) (he : pa.getLsbD 0 = false) (hr : s.romShown pa = false) :
    (s.storeWord pa v).physByte a =
      if a = pa + 1 then loByte v else if a = pa then hiByte v else s.physByte a := by
  unfold State.storeWord
  rw [physByte_storeByte, physByte_storeByte]
  rw [storeByte_romShown, romShown_succ_of_even s he, hr]
  simp only [and_true]

/-- A stored word reads back. -/
theorem physWord_storeWord (s : State) (pa v : Word) (he : pa.getLsbD 0 = false) (hr : s.romShown pa = false) :
    (s.storeWord pa v).physWord pa = v := by
  unfold State.physWord
  rw [physByte_storeWord s pa _ v he hr, physByte_storeWord s pa _ v he hr]
  rw [if_neg (Ne.symm (succ_ne pa)), if_pos rfl, if_pos rfl, wordOfBytes_hi_lo]

/-- A word store leaves every byte outside its two. -/
theorem sameMemoryBut_storeWord (s : State) (pa v : Word) : SameMemoryBut [pa, pa + 1] s (s.storeWord pa v) := by
  intro a ha
  simp only [List.mem_cons, List.not_mem_nil, or_false, not_or] at ha
  unfold State.storeWord
  rw [physByte_storeByte, physByte_storeByte, if_neg fun h => ha.2 h.1, if_neg fun h => ha.1 h.1]

/-- A byte store leaves every other byte. -/
theorem sameMemoryBut_storeByte (s : State) (pa : Word) (b : Byte) : SameMemoryBut [pa] s (s.storeByte pa b) := by
  intro a ha
  simp only [List.mem_cons, List.not_mem_nil, or_false] at ha
  rw [physByte_storeByte]; simp [ha]

end Sys2Proof.Machine
end

