-- ==== Sys2Proof/Laws/Registers.lean ====
section
/-! SUPPORT. Laws of the registers (read after write, the stack pointer), of FLAG as a word, and of the frame relations of
Safety.lean under each update. -/

namespace Sys2Proof.Machine

/-! ## What each update leaves of memory -/

@[simp] theorem setPc_romShown (s : State) (v : Word) (x : Word) : (s.setPc v).romShown x = s.romShown x := rfl
@[simp] theorem setPc_physByte (s : State) (v : Word) (x : Word) : (s.setPc v).physByte x = s.physByte x := rfl
@[simp] theorem setPc_physWord (s : State) (v : Word) (x : Word) : (s.setPc v).physWord x = s.physWord x := rfl
@[simp] theorem setFlag_romShown (s : State) (f : Flag) (x : Word) : (s.setFlag f).romShown x = s.romShown x := rfl
@[simp] theorem setFlag_physByte (s : State) (f : Flag) (x : Word) : (s.setFlag f).physByte x = s.physByte x := rfl
@[simp] theorem setFlag_physWord (s : State) (f : Flag) (x : Word) : (s.setFlag f).physWord x = s.physWord x := rfl
@[simp] theorem setTlb_romShown (s : State) (t : Vector (BitVec 24) 8) (x : Word) : (s.setTlb t).romShown x = s.romShown x := rfl
@[simp] theorem setTlb_physByte (s : State) (t : Vector (BitVec 24) 8) (x : Word) : (s.setTlb t).physByte x = s.physByte x := rfl
@[simp] theorem setTlb_physWord (s : State) (t : Vector (BitVec 24) 8) (x : Word) : (s.setTlb t).physWord x = s.physWord x := rfl
@[simp] theorem setDev_romShown (s : State) (d : Devices) (x : Word) : (s.setDev d).romShown x = s.romShown x := rfl
@[simp] theorem setDev_physByte (s : State) (d : Devices) (x : Word) : (s.setDev d).physByte x = s.physByte x := rfl
@[simp] theorem setDev_physWord (s : State) (d : Devices) (x : Word) : (s.setDev d).physWord x = s.physWord x := rfl
@[simp] theorem setMmuEnabled_romShown (s : State) (b : Bool) (x : Word) : (s.setMmuEnabled b).romShown x = s.romShown x := rfl
@[simp] theorem setMmuEnabled_physByte (s : State) (b : Bool) (x : Word) : (s.setMmuEnabled b).physByte x = s.physByte x := rfl
@[simp] theorem setMmuEnabled_physWord (s : State) (b : Bool) (x : Word) : (s.setMmuEnabled b).physWord x = s.physWord x := rfl
@[simp] theorem setHalted_romShown (s : State) (b : Bool) (x : Word) : (s.setHalted b).romShown x = s.romShown x := rfl
@[simp] theorem setHalted_physByte (s : State) (b : Bool) (x : Word) : (s.setHalted b).physByte x = s.physByte x := rfl
@[simp] theorem setHalted_physWord (s : State) (b : Bool) (x : Word) : (s.setHalted b).physWord x = s.physWord x := rfl
@[simp] theorem setPending_romShown (s : State) (p : Pending) (x : Word) : (s.setPending p).romShown x = s.romShown x := rfl
@[simp] theorem setPending_physByte (s : State) (p : Pending) (x : Word) : (s.setPending p).physByte x = s.physByte x := rfl
@[simp] theorem setPending_physWord (s : State) (p : Pending) (x : Word) : (s.setPending p).physWord x = s.physWord x := rfl
@[simp] theorem advanceDraws_romShown (s : State) (n : Nat) (x : Word) : (s.advanceDraws n).romShown x = s.romShown x := rfl
@[simp] theorem advanceDraws_physByte (s : State) (n : Nat) (x : Word) : (s.advanceDraws n).physByte x = s.physByte x := rfl
@[simp] theorem advanceDraws_physWord (s : State) (n : Nat) (x : Word) : (s.advanceDraws n).physWord x = s.physWord x := rfl
@[simp] theorem appendTrace_romShown (s : State) (e : IoEvent) (x : Word) : (s.appendTrace e).romShown x = s.romShown x := rfl
@[simp] theorem appendTrace_physByte (s : State) (e : IoEvent) (x : Word) : (s.appendTrace e).physByte x = s.physByte x := rfl
@[simp] theorem appendTrace_physWord (s : State) (e : IoEvent) (x : Word) : (s.appendTrace e).physWord x = s.physWord x := rfl
@[simp] theorem recordViolation_romShown (s : State) (a : Word) (c : BitVec 2) (x : Word) : (s.recordViolation a c).romShown x = s.romShown x := rfl
@[simp] theorem recordViolation_physByte (s : State) (a : Word) (c : BitVec 2) (x : Word) : (s.recordViolation a c).physByte x = s.physByte x := rfl
@[simp] theorem recordViolation_physWord (s : State) (a : Word) (c : BitVec 2) (x : Word) : (s.recordViolation a c).physWord x = s.physWord x := rfl
@[simp] theorem recordFaultPage_romShown (s : State) (p : Byte) (x : Word) : (s.recordFaultPage p).romShown x = s.romShown x := rfl
@[simp] theorem recordFaultPage_physByte (s : State) (p : Byte) (x : Word) : (s.recordFaultPage p).physByte x = s.physByte x := rfl
@[simp] theorem recordFaultPage_physWord (s : State) (p : Byte) (x : Word) : (s.recordFaultPage p).physWord x = s.physWord x := rfl
@[simp] theorem violationAddressRead_romShown (s : State) (x : Word) : (s.violationAddressRead).romShown x = s.romShown x := rfl
@[simp] theorem violationAddressRead_physByte (s : State) (x : Word) : (s.violationAddressRead).physByte x = s.physByte x := rfl
@[simp] theorem violationAddressRead_physWord (s : State) (x : Word) : (s.violationAddressRead).physWord x = s.physWord x := rfl
@[simp] theorem violationCauseRead_romShown (s : State) (x : Word) : (s.violationCauseRead).romShown x = s.romShown x := rfl
@[simp] theorem violationCauseRead_physByte (s : State) (x : Word) : (s.violationCauseRead).physByte x = s.physByte x := rfl
@[simp] theorem violationCauseRead_physWord (s : State) (x : Word) : (s.violationCauseRead).physWord x = s.physWord x := rfl
@[simp] theorem faultPageRead_romShown (s : State) (x : Word) : (s.faultPageRead).romShown x = s.romShown x := rfl
@[simp] theorem faultPageRead_physByte (s : State) (x : Word) : (s.faultPageRead).physByte x = s.physByte x := rfl
@[simp] theorem faultPageRead_physWord (s : State) (x : Word) : (s.faultPageRead).physWord x = s.physWord x := rfl
@[simp] theorem writePhys_romShown (s : State) (r : PhysReg) (v x : Word) : (s.writePhys r v).romShown x = s.romShown x := by
  simp [State.romShown]
@[simp] theorem writePhys_physByte (s : State) (r : PhysReg) (v x : Word) : (s.writePhys r v).physByte x = s.physByte x := by
  simp [State.physByte, State.romShown]
@[simp] theorem writePhys_physWord (s : State) (r : PhysReg) (v x : Word) : (s.writePhys r v).physWord x = s.physWord x := by
  simp [State.physWord, State.physByte, State.romShown]
@[simp] theorem writeReg_romShown (s : State) (r : Reg) (v x : Word) : (s.writeReg r v).romShown x = s.romShown x := by
  simp [State.romShown]
@[simp] theorem writeReg_physByte (s : State) (r : Reg) (v x : Word) : (s.writeReg r v).physByte x = s.physByte x := by
  simp [State.physByte, State.romShown]
@[simp] theorem writeReg_physWord (s : State) (r : Reg) (v x : Word) : (s.writeReg r v).physWord x = s.physWord x := by
  simp [State.physWord, State.physByte, State.romShown]

/-! ## Registers -/

@[simp] theorem physOf_eq_flag (r : Reg) (p : Bool) : physOf r p = .flag ↔ r = .flag := by
  cases r <;> cases p <;> simp [physOf]

@[simp] theorem physOf_flag (p : Bool) : physOf .flag p = .flag := rfl
@[simp] theorem physOf_usp (p : Bool) : physOf .usp p = .usp := rfl

theorem physOf_sp (p : Bool) : physOf .sp p = if p then .ssp else .usp := rfl

theorem physOf_sp_ne_flag (p : Bool) : physOf .sp p ≠ .flag := by cases p <;> simp [physOf]

/-- A register number names the stack pointer in use only as SP, or as USP in user mode. -/
theorem physOf_eq_sp (r : Reg) (p : Bool) : physOf r p = physOf .sp p ↔ r = .sp ∨ r = .usp ∧ p = false := by
  cases r <;> cases p <;> simp [physOf]

/-- Read after write of a physical register. -/
theorem readPhys_writePhys (s : State) (r q : PhysReg) (v : Word) :
    (s.writePhys r v).readPhys q =
      if q = r then (if r = .flag then (s.flag.load v).toWord else v) else s.readPhys q := by
  by_cases h : q = r
  · subst h; cases q <;> simp [State.writePhys, State.readPhys]
  · cases r <;> simp only [h, if_false] <;> cases q <;> first | rfl | exact absurd rfl h

/-- FLAG after a register write. -/
theorem writePhys_flag (s : State) (r : PhysReg) (v : Word) :
    (s.writePhys r v).flag = if r = .flag then s.flag.load v else s.flag := by cases r <;> rfl

theorem writeReg_flag (s : State) (r : Reg) (v : Word) :
    (s.writeReg r v).flag = if r = .flag then s.flag.load v else s.flag := by
  simp [State.writeReg, writePhys_flag]

@[simp] theorem setSp_flag (s : State) (v : Word) : (s.setSp v).flag = s.flag := by simp [State.setSp, writeReg_flag]

/-- Privileged mode uses SSP, user mode USP. -/
theorem sp_eq (s : State) : s.sp = if s.flag.p then s.ssp else s.usp := by
  unfold State.sp State.readReg physOf; cases s.flag.p <;> rfl

@[simp] theorem readPhys_sp (s : State) : s.readPhys (physOf .sp s.flag.p) = s.sp := rfl

/-- The registers after a FLAG update. -/
theorem readPhys_setFlag (s : State) (f : Flag) (q : PhysReg) :
    (s.setFlag f).readPhys q = if q = .flag then f.toWord else s.readPhys q := by cases q <;> rfl

/-- A register number reads the same where FLAG and the physical registers are the same. -/
theorem readReg_of_same {s t : State} (hf : t.flag = s.flag) (hr : ∀ r, t.readPhys r = s.readPhys r) (r : Reg) :
    t.readReg r = s.readReg r := by unfold State.readReg; rw [hf, hr]

theorem readReg_setTlb (s : State) (t : Vector (BitVec 24) 8) (r : Reg) : (s.setTlb t).readReg r = s.readReg r := by
  simp [State.readReg]

@[simp] theorem setTlb_readReg (s : State) (t : Vector (BitVec 24) 8) (r : Reg) : (s.setTlb t).readReg r = s.readReg r :=
  readReg_setTlb s t r
@[simp] theorem setTlb_sp (s : State) (t : Vector (BitVec 24) 8) : (s.setTlb t).sp = s.sp := readReg_setTlb s t .sp
@[simp] theorem setMem_sp (s : State) (m : Memory) : (s.setMem m).sp = s.sp := readReg_of_same (by simp) (by simp) .sp
@[simp] theorem setPc_sp (s : State) (v : Word) : (s.setPc v).sp = s.sp := readReg_of_same (by simp) (by simp) .sp
@[simp] theorem storeByte_flag (s : State) (a : Word) (b : Byte) : (s.storeByte a b).flag = s.flag := rfl
@[simp] theorem storeWord_flag (s : State) (a v : Word) : (s.storeWord a v).flag = s.flag := rfl
@[simp] theorem storeByte_readPhys (s : State) (a : Word) (b : Byte) (r : PhysReg) :
    (s.storeByte a b).readPhys r = s.readPhys r := by cases r <;> rfl
@[simp] theorem storeWord_readPhys (s : State) (a v : Word) (r : PhysReg) :
    (s.storeWord a v).readPhys r = s.readPhys r := by cases r <;> rfl
@[simp] theorem storeWord_sp (s : State) (a v : Word) : (s.storeWord a v).sp = s.sp :=
  readReg_of_same (by simp) (by simp) .sp
@[simp] theorem storeWord_pc (s : State) (a v : Word) : (s.storeWord a v).pc = s.pc := rfl
@[simp] theorem storeWord_tlb (s : State) (a v : Word) : (s.storeWord a v).tlb = s.tlb := rfl
@[simp] theorem storeWord_iplDetached (s : State) (a v : Word) : (s.storeWord a v).iplDetached = s.iplDetached := rfl
@[simp] theorem storeWord_mmuEnabled (s : State) (a v : Word) : (s.storeWord a v).mmuEnabled = s.mmuEnabled := rfl
@[simp] theorem storeByte_iplDetached (s : State) (a : Word) (b : Byte) : (s.storeByte a b).iplDetached = s.iplDetached := rfl
@[simp] theorem storeByte_mmuEnabled (s : State) (a : Word) (b : Byte) : (s.storeByte a b).mmuEnabled = s.mmuEnabled := rfl
@[simp] theorem storeByte_pc (s : State) (a : Word) (b : Byte) : (s.storeByte a b).pc = s.pc := rfl
@[simp] theorem storeByte_tlb (s : State) (a : Word) (b : Byte) : (s.storeByte a b).tlb = s.tlb := rfl

/-! ## FLAG as a word -/

@[simp] theorem ofWord_toWord (f : Flag) : Flag.ofWord f.toWord = f := by
  obtain ⟨e, p, i, u, v, c, s, z⟩ := f
  cases e <;> cases p <;> cases i <;> cases u <;> cases v <;> cases c <;> cases s <;> cases z <;> rfl

/-- Bit `k` of FLAG (R25). -/
def flagBit (f : Flag) : Nat → Bool
  | 0 => f.z | 1 => f.s | 2 => f.c | 3 => f.v | 4 => f.u | 5 => f.i | 6 => f.p | 7 => f.e | _ => false

/-- The bits of FLAG as a word. -/
theorem toWord_getLsbD (f : Flag) {k : Nat} (hk : k < 16) : f.toWord.getLsbD k = flagBit f k := by
  obtain ⟨e, p, i, u, v, c, s, z⟩ := f
  have h : ∀ e p i u v c s z : Bool, ∀ k : Fin 16, (Flag.toWord ⟨e, p, i, u, v, c, s, z⟩).getLsbD k.val =
    flagBit ⟨e, p, i, u, v, c, s, z⟩ k.val := by decide
  exact h e p i u v c s z ⟨k, hk⟩

/-- Loading a FLAG's own word in privileged mode gives it back. -/
theorem load_toWord_of_privileged (f g : Flag) (h : f.p = true) : f.load g.toWord = g := by
  simp [Flag.load, h]

/-- A load in user mode leaves E, P and I. -/
theorem load_user (f : Flag) (w : Word) (h : f.p = false) :
    (f.load w).e = f.e ∧ (f.load w).p = false ∧ (f.load w).i = f.i := by simp [Flag.load, h]

@[simp] theorem trapped_p (f : Flag) : f.trapped.p = true := rfl
@[simp] theorem trapped_e (f : Flag) : f.trapped.e = false := rfl
@[simp] theorem after_p (f : Flag) (r : Word) (c v : Bool) : (f.after r c v).p = f.p := rfl

/-! ## Frames -/

theorem SameRegsBut.refl (l : List PhysReg) (s : State) : SameRegsBut l s s := fun _ _ => rfl

theorem SameRegsBut.mono {l l' : List PhysReg} {s t : State} (h : SameRegsBut l s t) (hl : ∀ r ∈ l, r ∈ l') :
    SameRegsBut l' s t := fun r hr => h r fun h' => hr (hl r h')

theorem SameRegsBut.trans {l : List PhysReg} {s t u : State} (h : SameRegsBut l s t) (h' : SameRegsBut l t u) :
    SameRegsBut l s u := fun r hr => (h' r hr).trans (h r hr)

theorem SameControl.refl (s : State) : SameControl s s := by simp [SameControl]

theorem SameMemory.refl (s : State) : SameMemory s s := fun _ => rfl

theorem SameControl.trans {s t u : State} (h : SameControl s t) (h' : SameControl t u) : SameControl s u := by
  simp only [SameControl] at *; simp only [h, h', and_self]

theorem sameControl_setPc (s : State) (v : Word) : SameControl s (s.setPc v) := by simp [SameControl]
theorem sameControl_setFlag (s : State) (f : Flag) : SameControl s (s.setFlag f) := by simp [SameControl]
theorem sameControl_setMem (s : State) (m : Memory) : SameControl s (s.setMem m) := by simp [SameControl]
theorem sameControl_setTlb (s : State) (t : Vector (BitVec 24) 8) : SameControl s (s.setTlb t) := by simp [SameControl]
theorem sameControl_advanceDraws (s : State) (n : Nat) : SameControl s (s.advanceDraws n) := by simp [SameControl]
theorem sameControl_writePhys (s : State) (r : PhysReg) (v : Word) : SameControl s (s.writePhys r v) := by
  simp [SameControl]
theorem sameControl_storeByte (s : State) (a : Word) (b : Byte) : SameControl s (s.storeByte a b) :=
  sameControl_setMem s _
theorem sameControl_storeWord (s : State) (a v : Word) : SameControl s (s.storeWord a v) :=
  (sameControl_storeByte s a _).trans (sameControl_storeByte _ _ _)

/-- A register write, then a new pc, is what `WroteReg` says. -/
theorem wroteReg_writeReg {rd : Reg} {v : Word} {s s1 : State} (hf : s1.flag = s.flag)
    (hr : ∀ r, s1.readPhys r = s.readPhys r) (pc : Word) : WroteReg rd v s ((s1.writeReg rd v).setPc pc) := by
  refine ⟨?_, fun q hq => ?_⟩
  · split <;> rename_i h
    · subst h; simp [writeReg_flag, hf]
    · simp [h, hf, State.writeReg, readPhys_writePhys, writePhys_flag]
  · simp only [List.mem_cons, List.not_mem_nil, or_false] at hq
    simp [State.writeReg, hf, readPhys_writePhys, hq, hr]

end Sys2Proof.Machine
end

