-- ==== Sys2Proof/Laws/Agents.lean ====
section
/-! SUPPORT. What other agents can do between two memory accesses: write drawn bytes into the buffers of running microSD
transfers, and nothing else. -/

namespace Sys2Proof.Machine

/-- Everything `otherAgents` can do: memory and the draw counter change, memory outside the buffers does not, and the
canonical form is kept. -/
theorem otherAgents_eq (s : State) :
    ∃ m n, otherAgents s = (s.setMem m).advanceDraws n ∧
      (∀ a : Word, a ∉ s.agentCells → readMem m a.toNat = readMem s.mem a.toNat) ∧
      (Memory.wf s.mem = true → Memory.wf m = true) := by
  unfold otherAgents
  split
  · exact ⟨s.mem, 0, rfl, fun _ _ => rfl, id⟩
  · exact ⟨_, 1, rfl, fun _ h => readMem_agentsWrite _ h, wf_agentsWrite _⟩

/-- Without a running transfer other agents do nothing. -/
theorem otherAgents_of_idle {s : State} (h : s.dev.sdBuffers = []) : otherAgents s = s := by
  unfold otherAgents; rw [h]

theorem agentCells_of_idle {s : State} (h : s.dev.sdBuffers = []) : s.agentCells = [] := by
  unfold State.agentCells; rw [h]; rfl

/-- The buffers are in the devices' state. -/
theorem agentCells_of_dev {s t : State} (h : t.dev = s.dev) : t.agentCells = s.agentCells := by
  unfold State.agentCells; rw [h]

@[simp] theorem otherAgents_g0 (s : State) : (otherAgents s).g0 = s.g0 := by
  obtain ⟨m, n, h, _⟩ := otherAgents_eq s; rw [h]; rfl
@[simp] theorem otherAgents_g1 (s : State) : (otherAgents s).g1 = s.g1 := by
  obtain ⟨m, n, h, _⟩ := otherAgents_eq s; rw [h]; rfl
@[simp] theorem otherAgents_g2 (s : State) : (otherAgents s).g2 = s.g2 := by
  obtain ⟨m, n, h, _⟩ := otherAgents_eq s; rw [h]; rfl
@[simp] theorem otherAgents_g3 (s : State) : (otherAgents s).g3 = s.g3 := by
  obtain ⟨m, n, h, _⟩ := otherAgents_eq s; rw [h]; rfl
@[simp] theorem otherAgents_g4 (s : State) : (otherAgents s).g4 = s.g4 := by
  obtain ⟨m, n, h, _⟩ := otherAgents_eq s; rw [h]; rfl
@[simp] theorem otherAgents_g5 (s : State) : (otherAgents s).g5 = s.g5 := by
  obtain ⟨m, n, h, _⟩ := otherAgents_eq s; rw [h]; rfl
@[simp] theorem otherAgents_g6 (s : State) : (otherAgents s).g6 = s.g6 := by
  obtain ⟨m, n, h, _⟩ := otherAgents_eq s; rw [h]; rfl
@[simp] theorem otherAgents_g7 (s : State) : (otherAgents s).g7 = s.g7 := by
  obtain ⟨m, n, h, _⟩ := otherAgents_eq s; rw [h]; rfl
@[simp] theorem otherAgents_g8 (s : State) : (otherAgents s).g8 = s.g8 := by
  obtain ⟨m, n, h, _⟩ := otherAgents_eq s; rw [h]; rfl
@[simp] theorem otherAgents_g9 (s : State) : (otherAgents s).g9 = s.g9 := by
  obtain ⟨m, n, h, _⟩ := otherAgents_eq s; rw [h]; rfl
@[simp] theorem otherAgents_g10 (s : State) : (otherAgents s).g10 = s.g10 := by
  obtain ⟨m, n, h, _⟩ := otherAgents_eq s; rw [h]; rfl
@[simp] theorem otherAgents_g11 (s : State) : (otherAgents s).g11 = s.g11 := by
  obtain ⟨m, n, h, _⟩ := otherAgents_eq s; rw [h]; rfl
@[simp] theorem otherAgents_fp (s : State) : (otherAgents s).fp = s.fp := by
  obtain ⟨m, n, h, _⟩ := otherAgents_eq s; rw [h]; rfl
@[simp] theorem otherAgents_ssp (s : State) : (otherAgents s).ssp = s.ssp := by
  obtain ⟨m, n, h, _⟩ := otherAgents_eq s; rw [h]; rfl
@[simp] theorem otherAgents_usp (s : State) : (otherAgents s).usp = s.usp := by
  obtain ⟨m, n, h, _⟩ := otherAgents_eq s; rw [h]; rfl
@[simp] theorem otherAgents_pc (s : State) : (otherAgents s).pc = s.pc := by
  obtain ⟨m, n, h, _⟩ := otherAgents_eq s; rw [h]; rfl
@[simp] theorem otherAgents_flag (s : State) : (otherAgents s).flag = s.flag := by
  obtain ⟨m, n, h, _⟩ := otherAgents_eq s; rw [h]; rfl
@[simp] theorem otherAgents_tlb (s : State) : (otherAgents s).tlb = s.tlb := by
  obtain ⟨m, n, h, _⟩ := otherAgents_eq s; rw [h]; rfl
@[simp] theorem otherAgents_iplDetached (s : State) : (otherAgents s).iplDetached = s.iplDetached := by
  obtain ⟨m, n, h, _⟩ := otherAgents_eq s; rw [h]; rfl
@[simp] theorem otherAgents_mmuEnabled (s : State) : (otherAgents s).mmuEnabled = s.mmuEnabled := by
  obtain ⟨m, n, h, _⟩ := otherAgents_eq s; rw [h]; rfl
@[simp] theorem otherAgents_violationAddress (s : State) : (otherAgents s).violationAddress = s.violationAddress := by
  obtain ⟨m, n, h, _⟩ := otherAgents_eq s; rw [h]; rfl
@[simp] theorem otherAgents_violationAddressFresh (s : State) : (otherAgents s).violationAddressFresh = s.violationAddressFresh := by
  obtain ⟨m, n, h, _⟩ := otherAgents_eq s; rw [h]; rfl
@[simp] theorem otherAgents_violationCause (s : State) : (otherAgents s).violationCause = s.violationCause := by
  obtain ⟨m, n, h, _⟩ := otherAgents_eq s; rw [h]; rfl
@[simp] theorem otherAgents_violationCauseFresh (s : State) : (otherAgents s).violationCauseFresh = s.violationCauseFresh := by
  obtain ⟨m, n, h, _⟩ := otherAgents_eq s; rw [h]; rfl
@[simp] theorem otherAgents_faultPage (s : State) : (otherAgents s).faultPage = s.faultPage := by
  obtain ⟨m, n, h, _⟩ := otherAgents_eq s; rw [h]; rfl
@[simp] theorem otherAgents_faultPageFresh (s : State) : (otherAgents s).faultPageFresh = s.faultPageFresh := by
  obtain ⟨m, n, h, _⟩ := otherAgents_eq s; rw [h]; rfl
@[simp] theorem otherAgents_halted (s : State) : (otherAgents s).halted = s.halted := by
  obtain ⟨m, n, h, _⟩ := otherAgents_eq s; rw [h]; rfl
@[simp] theorem otherAgents_pending (s : State) : (otherAgents s).pending = s.pending := by
  obtain ⟨m, n, h, _⟩ := otherAgents_eq s; rw [h]; rfl
@[simp] theorem otherAgents_dev (s : State) : (otherAgents s).dev = s.dev := by
  obtain ⟨m, n, h, _⟩ := otherAgents_eq s; rw [h]; rfl
@[simp] theorem otherAgents_trace (s : State) : (otherAgents s).trace = s.trace := by
  obtain ⟨m, n, h, _⟩ := otherAgents_eq s; rw [h]; rfl
@[simp] theorem otherAgents_readPhys (s : State) (r : PhysReg) : (otherAgents s).readPhys r = s.readPhys r := by
  obtain ⟨m, n, h, _⟩ := otherAgents_eq s; rw [h, advanceDraws_readPhys, setMem_readPhys]
@[simp] theorem otherAgents_romShown (s : State) (a : Word) : (otherAgents s).romShown a = s.romShown a := by
  unfold State.romShown; rw [otherAgents_iplDetached]
@[simp] theorem otherAgents_sp (s : State) : (otherAgents s).sp = s.sp :=
  readReg_of_same (by simp) (by simp) .sp
@[simp] theorem otherAgents_translates (s : State) : (otherAgents s).translates = s.translates := by
  unfold State.translates; rw [otherAgents_mmuEnabled, otherAgents_flag]
@[simp] theorem otherAgents_agentCells (s : State) : (otherAgents s).agentCells = s.agentCells :=
  agentCells_of_dev (otherAgents_dev s)

/-- A byte outside the buffers reads as before. -/
theorem otherAgents_physByte {s : State} {a : Word} (h : a ∉ s.agentCells) :
    (otherAgents s).physByte a = s.physByte a := by
  obtain ⟨m, n, he, hm, _⟩ := otherAgents_eq s
  unfold State.physByte
  rw [otherAgents_romShown, he]
  simp only [advanceDraws_mem, setMem_mem, hm a h]

/-- A word outside the buffers reads as before. -/
theorem otherAgents_physWord {s : State} {a : Word} (h : a ∉ s.agentCells) (h1 : a + 1 ∉ s.agentCells) :
    (otherAgents s).physWord a = s.physWord a := by
  unfold State.physWord; rw [otherAgents_physByte h, otherAgents_physByte h1]

theorem wf_otherAgents {s : State} (h : Memory.wf s.mem = true) : Memory.wf (otherAgents s).mem = true := by
  obtain ⟨m, n, he, _, hw⟩ := otherAgents_eq s; rw [he]; exact hw h

theorem sameControl_otherAgents (s : State) : SameControl s (otherAgents s) := by
  unfold SameControl; simp

theorem sameRegs_otherAgents (s : State) : SameRegsBut [] s (otherAgents s) := fun r _ => otherAgents_readPhys s r

theorem sameMemoryBut_otherAgents (s : State) : SameMemoryBut s.agentCells s (otherAgents s) :=
  fun _ h => otherAgents_physByte h

end Sys2Proof.Machine
end

