-- ==== Sys2Proof/Laws/Access.lean ====
section
/-! SUPPORT. For each memory access primitive, the stack, and taking an exception: one lemma that says everything it can
do, so that no later proof unfolds it. -/

namespace Sys2Proof.Machine

/-! ## The TLB -/

theorem tlbGet_tlbSet (t : Vector (BitVec 24) 8) (k j : Fin 8) (e : BitVec 24) :
    tlbGet (tlbSet t k e) j = if j = k then e else tlbGet t j := by
  unfold tlbGet tlbSet
  rw [Vector.getElem_set]
  by_cases h : j = k
  · subst h; simp
  · have : ¬k.val = j.val := fun e => h (Fin.ext e.symm)
    simp [h, this]

theorem tlbMark_eq (e : BitVec 24) (kind : AccessKind) :
    tlbMark e kind = (e ||| 0x001000 ||| if kind = .write then 0x000800 else 0) := by
  cases kind
  · exact (BitVec.or_zero).symm
  · show e ||| 0x001800 = e ||| 0x001000 ||| 0x000800
    rw [BitVec.or_assoc]; rfl
  · exact (BitVec.or_zero).symm

/-- A mark sets the bits of its kind at most. -/
theorem tlbMark_marks (e : BitVec 24) (kind : AccessKind) :
    tlbMark e kind ||| tlbMarkBits kind = e ||| tlbMarkBits kind ∧ tlbMark e kind &&& e = e := by
  have h (m : BitVec 24) : (e ||| m) ||| m = e ||| m ∧ (e ||| m) &&& e = e := by
    refine ⟨by rw [BitVec.or_assoc, BitVec.or_self], ?_⟩
    apply BitVec.eq_of_getLsbD_eq; intro i _
    simp only [BitVec.getLsbD_and, BitVec.getLsbD_or]
    cases e.getLsbD i <;> simp
  cases kind <;> exact h _

theorem OnlyTlbMarks.refl (kind : AccessKind) (t : Vector (BitVec 24) 8) : OnlyTlbMarks kind t t :=
  fun _ => ⟨rfl, BitVec.and_self⟩

theorem OnlyTlbMarks.trans {kind : AccessKind} {t u v : Vector (BitVec 24) 8} (h : OnlyTlbMarks kind t u)
    (h' : OnlyTlbMarks kind u v) : OnlyTlbMarks kind t v := by
  intro k
  refine ⟨(h' k).1.trans (h k).1, ?_⟩
  have h1 := (h k).2
  have h2 := (h' k).2
  calc tlbGet v k &&& tlbGet t k = tlbGet v k &&& (tlbGet u k &&& tlbGet t k) := by rw [h1]
    _ = tlbGet v k &&& tlbGet u k &&& tlbGet t k := (BitVec.and_assoc ..).symm
    _ = tlbGet t k := by rw [h2, h1]

theorem onlyTlbMarks_tlbSet (t : Vector (BitVec 24) 8) (k : Fin 8) (kind : AccessKind) :
    OnlyTlbMarks kind t (tlbSet t k (tlbMark (tlbGet t k) kind)) := by
  intro j; rw [tlbGet_tlbSet]; split
  · rename_i h; subst h; exact tlbMark_marks _ _
  · exact ⟨rfl, BitVec.and_self⟩

/-- R and D bits leave bits 14 and 13 clear. -/
theorem tlbReservedClear_of_marks {kind : AccessKind} {t u : Vector (BitVec 24) 8} (h : OnlyTlbMarks kind t u)
    (ht : ∀ k, tlbGet t k &&& 0x6000 = 0) : ∀ k, tlbGet u k &&& 0x6000 = 0 := by
  intro k
  have h1 := congrArg (· &&& (0x6000 : BitVec 24)) (h k).1
  have e (x : BitVec 24) : (x ||| tlbMarkBits kind) &&& 0x6000 = x &&& 0x6000 := by
    have h0 : (tlbMarkBits kind &&& 0x6000) = 0 := by cases kind <;> rfl
    apply BitVec.eq_of_getLsbD_eq; intro i _
    have hi := congrArg (BitVec.getLsbD · i) h0
    simp only [BitVec.getLsbD_and, BitVec.getLsbD_or, show (0 : BitVec 24).getLsbD i = false from BitVec.getLsbD_zero] at hi ⊢
    rw [Bool.and_or_distrib_right, hi, Bool.or_false]
  simp only [e] at h1
  rw [h1, ht k]

/-! ## Translation -/

/-- Outside user mode with the MMU on, translation is the identity. -/
theorem translate_of_not_translates {s : State} (h : s.translates = false) (addr : Word) (kind : AccessKind) :
    translate addr kind s = .done addr s := by simp [translate, h]

theorem translates_of_privileged {s : State} (h : s.flag.p = true) : s.translates = false := by
  simp [State.translates, h]

@[simp] theorem tlbMatches_mem (t : Vector (BitVec 24) 8) (page : Byte) (k : Fin 8) :
    k ∈ tlbMatches t page ↔ tlbValid (tlbGet t k) = true ∧ tlbPage (tlbGet t k) = page := by
  have : k ∈ ([0, 1, 2, 3, 4, 5, 6, 7] : List (Fin 8)) := by fin_cases k <;> decide
  simp only [tlbMatches, List.mem_filter, this, true_and, Bool.and_eq_true, beq_iff_eq]

theorem tlbMatches_nodup (t : Vector (BitVec 24) 8) (page : Byte) : (tlbMatches t page).Nodup :=
  List.Nodup.filter _ (by decide)

/-- A translation that succeeds changes R and D bits at most, keeps the byte's place in its page, and is the identity where
translation does not apply. -/
theorem translate_done {addr pa : Word} {kind : AccessKind} {s s1 : State} (h : translate addr kind s = .done pa s1) :
    s1 = s.setTlb s1.tlb ∧ OnlyTlbMarks kind s.tlb s1.tlb ∧ loByte pa = loByte addr ∧
      (s.translates = false → pa = addr ∧ s1 = s) := by
  unfold translate at h
  split at h
  · rename_i ht
    split at h
    · cases h
    · split at h
      · injection h with h1 h2
        subst h1 h2
        exact ⟨rfl, onlyTlbMarks_tlbSet _ _ _, loByte_wordOfBytes _ _, fun h => by simp [h] at ht⟩
      · cases h
    · cases h
  · injection h with h1 h2
    subst h1 h2
    exact ⟨rfl, OnlyTlbMarks.refl _ _, rfl, fun _ => ⟨rfl, rfl⟩⟩

/-- A translation that raises changes nothing and raises TlbMiss of the page or memVio of the address. -/
theorem translate_raised {addr : Word} {kind : AccessKind} {s s1 : State} {e : Exc}
    (h : translate addr kind s = .raised e s1) :
    s1 = s ∧ s.translates = true ∧ (e = .tlbMiss (hiByte addr) ∨ e = .memVio addr) := by
  unfold translate at h
  split at h
  · rename_i ht
    split at h
    · injection h with h1 h2; exact ⟨h2.symm, ht, .inl h1.symm⟩
    · split at h
      · cases h
      · injection h with h1 h2; exact ⟨h2.symm, ht, .inr h1.symm⟩
    · cases h
  · cases h

/-- Translation keeps the parity of the address. -/
theorem translate_even {addr pa : Word} {kind : AccessKind} {s s1 : State} (h : translate addr kind s = .done pa s1) :
    pa.getLsbD 0 = addr.getLsbD 0 := by
  have := congrArg (BitVec.getLsbD · 0) (translate_done h).2.2.1
  simpa [loByte] using this

/-! ## The access primitives -/

theorem memReadWord_done {kind : AccessKind} {addr v : Word} {s s1 : State} :
    memReadWord kind addr s = .done v s1 ↔
      addr.getLsbD 0 = false ∧ ∃ pa, translate addr kind s = .done pa s1 ∧ v = s1.physWord pa := by
  unfold memReadWord
  cases h : addr.getLsbD 0 <;> simp only [Bool.false_eq_true, if_false, if_true]
  · cases ht : translate addr kind s <;> simp only [Access.done.injEq, reduceCtorEq, false_and, exists_false, true_and, and_false]
    rename_i pa s2
    constructor
    · rintro ⟨rfl, rfl⟩; exact ⟨pa, ⟨rfl, rfl⟩, rfl⟩
    · rintro ⟨_, ⟨rfl, rfl⟩, rfl⟩; exact ⟨rfl, rfl⟩
  · simp

theorem memReadWord_raised {kind : AccessKind} {addr : Word} {s s1 : State} {e : Exc} :
    memReadWord kind addr s = .raised e s1 ↔
      (addr.getLsbD 0 = true ∧ e = .badAddr addr ∧ s1 = s) ∨
      (addr.getLsbD 0 = false ∧ translate addr kind s = .raised e s1) := by
  unfold memReadWord
  cases h : addr.getLsbD 0 <;> simp only [Bool.false_eq_true, if_false, if_true]
  · cases ht : translate addr kind s <;> simp
  · simp [eq_comm]

theorem memReadByte_done {addr v : Word} {s s1 : State} :
    memReadByte addr s = .done v s1 ↔ ∃ pa, translate addr .read s = .done pa s1 ∧ v = (s1.physByte pa).setWidth 16 := by
  unfold memReadByte
  cases ht : translate addr .read s <;> simp only [Access.done.injEq, reduceCtorEq, false_and, exists_false]
  rename_i pa s2
  constructor
  · rintro ⟨rfl, rfl⟩; exact ⟨pa, ⟨rfl, rfl⟩, rfl⟩
  · rintro ⟨_, ⟨rfl, rfl⟩, rfl⟩; exact ⟨rfl, rfl⟩

theorem memReadByte_raised {addr : Word} {s s1 : State} {e : Exc} :
    memReadByte addr s = .raised e s1 ↔ translate addr .read s = .raised e s1 := by
  unfold memReadByte
  cases ht : translate addr .read s <;> simp

theorem memWriteWord_done {addr v : Word} {s t : State} :
    memWriteWord addr v s = .done () t ↔
      addr.getLsbD 0 = false ∧
        ∃ pa s1, translate addr .write s = .done pa s1 ∧ s1.romShown pa = false ∧ t = s1.storeWord pa v := by
  unfold memWriteWord
  cases h : addr.getLsbD 0 <;> simp only [Bool.false_eq_true, if_false, if_true]
  · cases ht : translate addr .write s <;> simp
    rename_i pa s2
    cases hr : s2.romShown pa <;> simp [eq_comm]
  · simp

theorem memWriteWord_raised {addr v : Word} {s s1 : State} {e : Exc} :
    memWriteWord addr v s = .raised e s1 ↔
      (addr.getLsbD 0 = true ∧ e = .badAddr addr ∧ s1 = s) ∨
      (addr.getLsbD 0 = false ∧ translate addr .write s = .raised e s1) := by
  unfold memWriteWord
  cases h : addr.getLsbD 0 <;> simp only [Bool.false_eq_true, if_false, if_true]
  · cases ht : translate addr .write s <;> simp
    intro h; split at h <;> cases h
  · simp [eq_comm]

theorem memWriteByte_done {addr v : Word} {s t : State} :
    memWriteByte addr v s = .done () t ↔
      ∃ pa s1, translate addr .write s = .done pa s1 ∧ s1.romShown pa = false ∧ t = s1.storeByte pa (loByte v) := by
  unfold memWriteByte
  cases ht : translate addr .write s <;> simp
  rename_i pa s2
  cases hr : s2.romShown pa <;> simp [eq_comm]

theorem memWriteByte_raised {addr v : Word} {s s1 : State} {e : Exc} :
    memWriteByte addr v s = .raised e s1 ↔ translate addr .write s = .raised e s1 := by
  unfold memWriteByte
  cases ht : translate addr .write s <;> simp
  intro h; split at h <;> cases h

/-- An access that raises changes nothing. -/
theorem memReadWord_raised_state {kind : AccessKind} {addr : Word} {s s1 : State} {e : Exc}
    (h : memReadWord kind addr s = .raised e s1) : s1 = s := by
  rcases memReadWord_raised.1 h with ⟨_, _, h⟩ | ⟨_, h⟩
  · exact h
  · exact (translate_raised h).1

theorem memReadWord_refused {kind : AccessKind} {addr : Word} {s : State} {r : Refusal} :
    memReadWord kind addr s = .refused r ↔ addr.getLsbD 0 = false ∧ translate addr kind s = .refused r := by
  unfold memReadWord
  cases h : addr.getLsbD 0 <;> simp only [Bool.false_eq_true, if_false, if_true]
  · cases ht : translate addr kind s <;> simp
  · simp

theorem memReadByte_refused {addr : Word} {s : State} {r : Refusal} :
    memReadByte addr s = .refused r ↔ translate addr .read s = .refused r := by
  unfold memReadByte
  cases ht : translate addr .read s <;> simp

theorem memWriteWord_refused {addr v : Word} {s : State} {r : Refusal} :
    memWriteWord addr v s = .refused r ↔ addr.getLsbD 0 = false ∧ (translate addr .write s = .refused r ∨
      r = .iplRomWrite ∧ ∃ pa s1, translate addr .write s = .done pa s1 ∧ s1.romShown pa = true) := by
  unfold memWriteWord
  cases h : addr.getLsbD 0 <;> simp only [Bool.false_eq_true, if_false, if_true]
  · cases ht : translate addr .write s <;> simp
    rename_i pa s1
    cases hr : s1.romShown pa <;> simp [eq_comm]
  · simp

theorem memWriteByte_refused {addr v : Word} {s : State} {r : Refusal} :
    memWriteByte addr v s = .refused r ↔ (translate addr .write s = .refused r ∨
      r = .iplRomWrite ∧ ∃ pa s1, translate addr .write s = .done pa s1 ∧ s1.romShown pa = true) := by
  unfold memWriteByte
  cases ht : translate addr .write s <;> simp
  rename_i pa s1
  cases hr : s1.romShown pa <;> simp [eq_comm]

/-- A word read leaves at most its kind's marks in the TLB, also where it raises. -/
theorem memReadWord_marks {kind : AccessKind} {addr : Word} {s s1 : State}
    (h : (∃ v, memReadWord kind addr s = .done v s1) ∨ (∃ e, memReadWord kind addr s = .raised e s1)) :
    s1 = s.setTlb s1.tlb ∧ OnlyTlbMarks kind s.tlb s1.tlb := by
  rcases h with ⟨v, h⟩ | ⟨e, h⟩
  · obtain ⟨_, pa, ht, _⟩ := memReadWord_done.1 h
    exact ⟨(translate_done ht).1, (translate_done ht).2.1⟩
  · rcases memReadWord_raised.1 h with ⟨_, _, rfl⟩ | ⟨_, ht⟩
    · exact ⟨rfl, OnlyTlbMarks.refl _ _⟩
    · rw [(translate_raised ht).1]; exact ⟨rfl, OnlyTlbMarks.refl _ _⟩

/-- The same for a byte read. -/
theorem memReadByte_marks {addr : Word} {s s1 : State}
    (h : (∃ v, memReadByte addr s = .done v s1) ∨ (∃ e, memReadByte addr s = .raised e s1)) :
    s1 = s.setTlb s1.tlb ∧ OnlyTlbMarks .read s.tlb s1.tlb := by
  rcases h with ⟨v, h⟩ | ⟨e, h⟩
  · obtain ⟨pa, ht, _⟩ := memReadByte_done.1 h
    exact ⟨(translate_done ht).1, (translate_done ht).2.1⟩
  · rw [(translate_raised (memReadByte_raised.1 h)).1]; exact ⟨rfl, OnlyTlbMarks.refl _ _⟩

/-! ## The stack -/

/-- A push that goes on has stored the word at SP - 2 and moved the stack pointer in use. -/
theorem push_done {v : Word} {s t : State} :
    push v s = .done () t ↔
      s.sp.getLsbD 0 = false ∧ ∃ pa s1, translate (s.sp - 2) .write s = .done pa s1 ∧ s1.romShown pa = false ∧
        t = (s1.storeWord pa v).setSp (s.sp - 2) := by
  have hpar : (s.sp - 2).getLsbD 0 = s.sp.getLsbD 0 := by
    rw [Bool.eq_iff_iff, ← not_iff_not]
    simp only [Bool.not_eq_true, even_iff, BitVec.toNat_sub]
    have := s.sp.isLt
    rw [show (2 : Word).toNat = 2 from rfl]; omega
  unfold push
  cases hw : memWriteWord (s.sp - 2) v s with
  | done x s1 =>
    have h1 := memWriteWord_done.1 hw
    rw [hpar] at h1
    obtain ⟨he, pa, s2, ht, hr, rfl⟩ := h1
    simp only [Access.done.injEq, true_and]
    constructor
    · rintro rfl; exact ⟨he, pa, s2, ht, hr, rfl⟩
    · rintro ⟨_, pa', s2', ht', _, rfl⟩; rw [ht] at ht'; injection ht' with h1 h2; subst h1 h2; rfl
  | raised e s1 =>
    simp only [reduceCtorEq, false_iff]
    rintro ⟨he, pa, s2, ht, hr, _⟩
    have := memWriteWord_done (v := v).2 ⟨hpar.trans he, pa, s2, ht, hr, rfl⟩
    rw [this] at hw; cases hw
  | refused r =>
    simp only [reduceCtorEq, false_iff]
    rintro ⟨he, pa, s2, ht, hr, _⟩
    have := memWriteWord_done (v := v).2 ⟨hpar.trans he, pa, s2, ht, hr, rfl⟩
    rw [this] at hw; cases hw

theorem push_raised {v : Word} {s s1 : State} {e : Exc} :
    push v s = .raised e s1 ↔ memWriteWord (s.sp - 2) v s = .raised e s1 := by
  unfold push
  cases memWriteWord (s.sp - 2) v s <;> simp

theorem push_refused {v : Word} {s : State} {r : Refusal} :
    push v s = .refused r ↔ memWriteWord (s.sp - 2) v s = .refused r := by
  unfold push
  cases memWriteWord (s.sp - 2) v s <;> simp

/-- A pop that goes on has read the word at SP and moved the stack pointer in use. -/
theorem pop_done {v : Word} {s t : State} :
    pop s = .done v t ↔ ∃ s1, memReadWord .read s.sp s = .done v s1 ∧ t = s1.setSp (s.sp + 2) := by
  unfold pop
  cases memReadWord .read s.sp s <;> simp [eq_comm]

theorem pop_raised {s s1 : State} {e : Exc} : pop s = .raised e s1 ↔ memReadWord .read s.sp s = .raised e s1 := by
  unfold pop
  cases memReadWord .read s.sp s <;> simp

theorem pop_refused {s : State} {r : Refusal} : pop s = .refused r ↔ memReadWord .read s.sp s = .refused r := by
  unfold pop
  cases memReadWord .read s.sp s <;> simp

/-! ## Taking an exception -/

/-- The state after trap entry's first push: P set and E cleared, the saved PC stored, SSP 2 lower. -/
def trapPushed (saved : Word) (s : State) : State :=
  (((otherAgents s).setFlag s.flag.trapped).storeWord (s.ssp - 2) saved).writePhys .ssp (s.ssp - 2)

/-- The state after its second push: the old FLAG stored, SSP 4 lower. -/
def trapFramed (saved : Word) (s : State) : State :=
  ((otherAgents (trapPushed saved s)).storeWord (s.ssp - 4) s.flag.toWord).writePhys .ssp (s.ssp - 4)

/-- The state trap entry leaves: PC from the vector row. -/
def trapState (slot : VectorSlot) (saved : Word) (s : State) : State :=
  (otherAgents (trapFramed saved s)).setPc ((otherAgents (trapFramed saved s)).physWord (vectorAddress slot))

theorem sub_two_two (w : Word) : w - 2 - 2 = w - 4 := by
  rw [BitVec.sub_sub]; rfl

theorem even_sub_two {w : Word} (h : w.getLsbD 0 = false) : (w - 2).getLsbD 0 = false := by
  rw [even_iff] at *; rw [BitVec.toNat_sub, show (2 : Word).toNat = 2 from rfl]; have := w.isLt; omega

theorem odd_sub_two {w : Word} (h : w.getLsbD 0 = true) : (w - 2).getLsbD 0 = true := by
  cases h2 : (w - 2).getLsbD 0
  · rw [even_iff, BitVec.toNat_sub, show (2 : Word).toNat = 2 from rfl] at h2
    have h3 : w.getLsbD 0 = false := by rw [even_iff]; have := w.isLt; omega
    rw [h3] at h; cases h
  · rfl

/-- A push in privileged mode at an odd SSP raises. -/
theorem push_privileged_odd {v : Word} {s : State} (hp : s.flag.p = true) (he : s.ssp.getLsbD 0 = true) :
    push v s = .raised (.badAddr (s.ssp - 2)) s := by
  have hs : s.sp = s.ssp := by rw [sp_eq, hp]; rfl
  unfold push memWriteWord
  rw [hs, odd_sub_two he]; rfl

/-- A push in privileged mode into the attached ROM is refused. -/
theorem push_privileged_rom {v : Word} {s : State} (hp : s.flag.p = true) (he : s.ssp.getLsbD 0 = false)
    (hr : s.romShown (s.ssp - 2) = true) : push v s = .refused .iplRomWrite := by
  have hs : s.sp = s.ssp := by rw [sp_eq, hp]; rfl
  unfold push memWriteWord
  rw [hs, even_sub_two he, translate_of_not_translates (translates_of_privileged hp)]
  simp only [Bool.false_eq_true, if_false, hr, if_true]

/-- A push in privileged mode else stores the word and moves SSP. -/
theorem push_privileged_ok {v : Word} {s : State} (hp : s.flag.p = true) (he : s.ssp.getLsbD 0 = false)
    (hr : s.romShown (s.ssp - 2) = false) :
    push v s = .done () ((s.storeWord (s.ssp - 2) v).writePhys .ssp (s.ssp - 2)) := by
  have hs : s.sp = s.ssp := by rw [sp_eq, hp]; rfl
  refine push_done.2 ⟨hs ▸ he, s.ssp - 2, s, ?_, hr, ?_⟩
  · rw [hs]; exact translate_of_not_translates (translates_of_privileged hp) _ _
  · rw [hs]; unfold State.setSp State.writeReg; rw [storeWord_flag, hp]; rfl

/-- Everything that recording an exception's details can do. -/
theorem recordDetails_records (e : Exc) (s : State) : RecordsDetails e s (recordDetails e s) := by
  cases e <;> refine ⟨by simp [recordDetails], fun r _ => by cases r <;> rfl, ?_⟩ <;> simp [recordDetails]

/-- Trap entry at an odd SSP is a double fault. -/
theorem trapEntry_odd {slot : VectorSlot} {saved : Word} {s : State} (he : s.ssp.getLsbD 0 = true) :
    trapEntry slot saved s = .fault .doubleFault := by
  unfold trapEntry
  rw [push_privileged_odd (s := (otherAgents s).setFlag s.flag.trapped) rfl (by simpa using he)]

/-- Trap entry's first push stores the saved PC. -/
theorem trapEntry_push1 {saved : Word} {s : State} (he : s.ssp.getLsbD 0 = false) (h2 : s.romShown (s.ssp - 2) = false) :
    push saved ((otherAgents s).setFlag s.flag.trapped) = .done () (trapPushed saved s) := by
  rw [push_privileged_ok (s := (otherAgents s).setFlag s.flag.trapped) rfl (by simpa using he) (by simpa using h2)]
  simp only [setFlag_ssp, otherAgents_ssp, trapPushed]

theorem trapPushed_flag (saved : Word) (s : State) : (trapPushed saved s).flag = s.flag.trapped := by
  simp [trapPushed, writePhys_flag]

theorem trapPushed_ssp (saved : Word) (s : State) : (trapPushed saved s).ssp = s.ssp - 2 := rfl

/-- Trap entry whose frame does not fit below the attached ROM is refused. -/
theorem trapEntry_rom {slot : VectorSlot} {saved : Word} {s : State} (he : s.ssp.getLsbD 0 = false)
    (hr : s.romShown (s.ssp - 2) = true ∨ s.romShown (s.ssp - 4) = true) :
    trapEntry slot saved s = .refused .iplRomWrite := by
  unfold trapEntry
  cases h2 : s.romShown (s.ssp - 2)
  · rw [trapEntry_push1 he h2]
    dsimp only
    have h4 : s.romShown (s.ssp - 4) = true := by
      rcases hr with h | h
      · rw [h] at h2; cases h2
      · exact h
    rw [← sub_two_two] at h4
    rw [push_privileged_rom (by rw [otherAgents_flag, trapPushed_flag]; rfl)
      (by rw [otherAgents_ssp, trapPushed_ssp]; exact even_sub_two he)
      (by rw [otherAgents_ssp, trapPushed_ssp, otherAgents_romShown]; simpa [trapPushed] using h4)]
  · rw [push_privileged_rom (s := (otherAgents s).setFlag s.flag.trapped) rfl (by simpa using he) (by simpa using h2)]

/-- Trap entry whose frame fits goes on in `trapState`. -/
theorem trapEntry_fits {slot : VectorSlot} {saved : Word} {s : State} (h : TrapFrameFits s) :
    trapEntry slot saved s = .next (trapState slot saved s) := by
  obtain ⟨he, h2, h4⟩ := h
  unfold trapEntry
  rw [trapEntry_push1 he h2]
  dsimp only
  rw [← sub_two_two] at h4
  rw [push_privileged_ok (by rw [otherAgents_flag, trapPushed_flag]; rfl)
    (by rw [otherAgents_ssp, trapPushed_ssp]; exact even_sub_two he)
    (by rw [otherAgents_ssp, trapPushed_ssp, otherAgents_romShown]; simpa [trapPushed] using h4)]
  simp only [otherAgents_ssp, trapPushed_ssp, sub_two_two, trapState, trapFramed]

/-- Trap entry that goes on is `trapState`, and its frame fitted. -/
theorem trapEntry_next {slot : VectorSlot} {saved : Word} {s t : State} :
    trapEntry slot saved s = .next t ↔ TrapFrameFits s ∧ t = trapState slot saved s := by
  constructor
  · intro h
    have hf : TrapFrameFits s := by
      refine ⟨?_, ?_, ?_⟩
      · cases he : s.ssp.getLsbD 0
        · rfl
        · rw [trapEntry_odd he] at h; cases h
      · cases hr : s.romShown (s.ssp - 2)
        · rfl
        · cases he : s.ssp.getLsbD 0
          · rw [trapEntry_rom he (.inl hr)] at h; cases h
          · rw [trapEntry_odd he] at h; cases h
      · cases hr : s.romShown (s.ssp - 4)
        · rfl
        · cases he : s.ssp.getLsbD 0
          · rw [trapEntry_rom he (.inr hr)] at h; cases h
          · rw [trapEntry_odd he] at h; cases h
    rw [trapEntry_fits hf] at h
    injection h with h
    exact ⟨hf, h.symm⟩
  · rintro ⟨hf, rfl⟩; exact trapEntry_fits hf

@[simp] theorem trapState_flag (slot : VectorSlot) (saved : Word) (s : State) :
    (trapState slot saved s).flag = s.flag.trapped := by
  simp only [trapState, trapFramed, setPc_flag, otherAgents_flag, writePhys_flag, reduceCtorEq, if_false, storeWord_flag,
    trapPushed_flag]
@[simp] theorem trapState_readPhys (slot : VectorSlot) (saved : Word) (s : State) (q : PhysReg) :
    (trapState slot saved s).readPhys q =
      if q = .ssp then s.ssp - 4 else if q = .flag then s.flag.trapped.toWord else s.readPhys q := by
  by_cases h : q = .ssp
  · subst h; simp [trapState, trapFramed, readPhys_writePhys]
  · simp [trapState, trapFramed, trapPushed, readPhys_writePhys, readPhys_setFlag, h]
@[simp] theorem trapState_ssp (slot : VectorSlot) (saved : Word) (s : State) :
    (trapState slot saved s).ssp = s.ssp - 4 := trapState_readPhys slot saved s .ssp
@[simp] theorem trapState_tlb (slot : VectorSlot) (saved : Word) (s : State) : (trapState slot saved s).tlb = s.tlb := by
  simp [trapState, trapFramed, trapPushed]
@[simp] theorem trapState_romShown (slot : VectorSlot) (saved : Word) (s : State) (a : Word) :
    (trapState slot saved s).romShown a = s.romShown a := by
  simp [trapState, trapFramed, trapPushed]
theorem trapState_pc (slot : VectorSlot) (saved : Word) (s : State) :
    (trapState slot saved s).pc = (trapState slot saved s).physWord (vectorAddress slot) := by
  simp only [trapState, setPc_pc, setPc_physWord]

theorem trapState_control (slot : VectorSlot) (saved : Word) (s : State) : SameControl s (trapState slot saved s) := by
  unfold trapState trapFramed trapPushed
  refine (sameControl_otherAgents s).trans <| (sameControl_setFlag _ _).trans <| (sameControl_storeWord _ _ _).trans <|
    (sameControl_writePhys _ _ _).trans <| (sameControl_otherAgents _).trans <| (sameControl_storeWord _ _ _).trans <|
    (sameControl_writePhys _ _ _).trans <| (sameControl_otherAgents _).trans (sameControl_setPc _ _)

@[simp] theorem trapState_agentCells (slot : VectorSlot) (saved : Word) (s : State) :
    (trapState slot saved s).agentCells = s.agentCells :=
  agentCells_of_dev (trapState_control slot saved s).2.2.2.2.2.2.2.2.2.2.1

theorem trapState_regs (slot : VectorSlot) (saved : Word) (s : State) :
    SameRegsBut [.ssp, .flag] s (trapState slot saved s) := by
  intro q hq
  simp only [List.mem_cons, List.not_mem_nil, or_false, not_or] at hq
  rw [trapState_readPhys, if_neg hq.1, if_neg hq.2]

theorem trapPushed_agentCells (saved : Word) (s : State) : (trapPushed saved s).agentCells = s.agentCells :=
  agentCells_of_dev (by rw [trapPushed, writePhys_dev]; exact otherAgents_dev s)

theorem trapFramed_agentCells (saved : Word) (s : State) : (trapFramed saved s).agentCells = s.agentCells := by
  rw [← trapPushed_agentCells saved s]
  exact agentCells_of_dev (by rw [trapFramed, writePhys_dev]; exact otherAgents_dev _)

/-- A byte outside the buffers of running transfers, after trap entry: of the frame, or as before. -/
theorem trapState_physByte {slot : VectorSlot} {saved : Word} {s : State} (h : TrapFrameFits s) {a : Word}
    (ha : a ∉ s.agentCells) :
    (trapState slot saved s).physByte a =
      if a = s.ssp - 4 + 1 then loByte s.flag.toWord else if a = s.ssp - 4 then hiByte s.flag.toWord
      else if a = s.ssp - 2 + 1 then loByte saved else if a = s.ssp - 2 then hiByte saved else s.physByte a := by
  obtain ⟨he, h2, h4⟩ := h
  have e2 := even_sub_two he
  have e4 := even_sub_two e2
  rw [sub_two_two] at e4
  unfold trapState
  rw [setPc_physByte, otherAgents_physByte (by rw [trapFramed_agentCells]; exact ha), trapFramed, writePhys_physByte,
    physByte_storeWord _ _ _ _ e4 (by simpa [trapPushed] using h4),
    otherAgents_physByte (by rw [trapPushed_agentCells]; exact ha), trapPushed, writePhys_physByte,
    physByte_storeWord _ _ _ _ e2 (by simpa using h2), setFlag_physByte, otherAgents_physByte ha]

/-- The two words of the frame where no buffer holds them, and no other byte outside the buffers. -/
theorem trapState_frame {slot : VectorSlot} {saved : Word} {s : State} (h : TrapFrameFits s) :
    (TrapFrameFree s → (trapState slot saved s).physWord (s.ssp - 2) = saved ∧
      (trapState slot saved s).physWord (s.ssp - 4) = s.flag.toWord) ∧
    SameMemoryBut ([s.ssp - 2, s.ssp - 1, s.ssp - 4, s.ssp - 3] ++ s.agentCells) s (trapState slot saved s) := by
  have a2 : s.ssp - 2 + 1 = s.ssp - 1 := by bv_omega
  have a4 : s.ssp - 4 + 1 = s.ssp - 3 := by bv_omega
  refine ⟨fun hf => ?_, fun a ha => ?_⟩
  · have f2 := hf (s.ssp - 2) (by simp)
    have f1 := hf (s.ssp - 1) (by simp)
    have f4 := hf (s.ssp - 4) (by simp)
    have f3 := hf (s.ssp - 3) (by simp)
    unfold State.physWord
    rw [a2, a4, trapState_physByte h f2, trapState_physByte h f1, trapState_physByte h f4, trapState_physByte h f3, a2, a4]
    simp
  · simp only [List.cons_append, List.nil_append, List.mem_cons, not_or] at ha
    rw [trapState_physByte h ha.2.2.2.2, a2, a4, if_neg ha.2.2.2.1, if_neg ha.2.2.1, if_neg ha.2.1, if_neg ha.1]

theorem takeException_next {e : Exc} {pc0 advanced : Word} {s t : State} :
    takeException e pc0 advanced s = .next t ↔
      TrapFrameFits s ∧ t = trapState (excSlot e) (savedPc e pc0 advanced) (recordDetails e s) := by
  unfold takeException
  rw [trapEntry_next]
  cases e <;> rfl

/-- `complete` goes on with the value, or takes the exception. -/
theorem complete_next {α : Type} {x : Access α} {pc0 advanced : Word} {k : α → State → Result} {t : State} :
    complete x pc0 advanced k = .next t ↔
      (∃ v s1, x = .done v s1 ∧ k v s1 = .next t) ∨ (∃ e s1, x = .raised e s1 ∧ takeException e pc0 advanced s1 = .next t) := by
  cases x <;> simp [complete]

@[simp] theorem complete_done {α : Type} (v : α) (s : State) (pc0 advanced : Word) (k : α → State → Result) :
    complete (.done v s) pc0 advanced k = k v s := rfl
@[simp] theorem complete_refused {α : Type} (r : Refusal) (pc0 advanced : Word) (k : α → State → Result) :
    complete (.refused r) pc0 advanced k = .refused r := rfl
@[simp] theorem complete_raised {α : Type} (e : Exc) (s : State) (pc0 advanced : Word) (k : α → State → Result) :
    complete (.raised e s) pc0 advanced k = takeException e pc0 advanced s := rfl

/-! ## Return from a trap -/

/-- A return that goes on has read FLAG at SP and the PC at SP + 2, other agents writing between the two. -/
theorem trapReturn_done {s t : State} :
    trapReturn s = .done () t ↔ ∃ f s1 v s2, memReadWord .read s.sp s = .done f s1 ∧
      memReadWord .read (s.sp + 2) (otherAgents s1) = .done v s2 ∧
      t = ((s2.setSp (s.sp + 4)).setFlag (s.flag.load f)).setPc v := by
  unfold trapReturn
  cases h1 : memReadWord .read s.sp s <;> simp only [reduceCtorEq, Access.done.injEq, false_and, exists_false]
  rename_i f s1
  cases h2 : memReadWord .read (s.sp + 2) (otherAgents s1) <;>
    simp only [reduceCtorEq, Access.done.injEq, true_and, false_iff, not_exists]
  · rename_i v s2
    constructor
    · rintro rfl; exact ⟨f, s1, v, s2, ⟨rfl, rfl⟩, h2, rfl⟩
    · rintro ⟨_, _, _, _, ⟨rfl, rfl⟩, h, rfl⟩; rw [h2] at h; injection h with h3 h4; subst h3 h4; rfl
  · rintro _ _ _ _ ⟨⟨rfl, rfl⟩, h, _⟩; rw [h2] at h; cases h
  · rintro _ _ _ _ ⟨⟨rfl, rfl⟩, h, _⟩; rw [h2] at h; cases h

/-- A return whose first read raises or is refused, and one whose second does. -/
theorem trapReturn_raised_first {s s1 : State} {e : Exc} (h : memReadWord .read s.sp s = .raised e s1) :
    trapReturn s = .raised e s1 := by unfold trapReturn; rw [h]
theorem trapReturn_refused_first {s : State} {r : Refusal} (h : memReadWord .read s.sp s = .refused r) :
    trapReturn s = .refused r := by unfold trapReturn; rw [h]
theorem trapReturn_raised_second {s s1 s2 : State} {f : Word} {e : Exc} (h1 : memReadWord .read s.sp s = .done f s1)
    (h2 : memReadWord .read (s.sp + 2) (otherAgents s1) = .raised e s2) : trapReturn s = .raised e s2 := by
  unfold trapReturn; rw [h1]; dsimp only; rw [h2]
theorem trapReturn_refused_second {s s1 : State} {f : Word} {r : Refusal} (h1 : memReadWord .read s.sp s = .done f s1)
    (h2 : memReadWord .read (s.sp + 2) (otherAgents s1) = .refused r) : trapReturn s = .refused r := by
  unfold trapReturn; rw [h1]; dsimp only; rw [h2]

end Sys2Proof.Machine
end

