-- ==== Sys2Proof/Laws/Decode.lean ====
section
/-! SUPPORT. The fields of an instruction's words: each field's decoding undoes its encoding, and the four fields make up the
first word. -/

namespace Sys2Proof

/-! ## Fields -/

@[simp] theorem Reg.ofBits_bits (r : Reg) : Reg.ofBits r.bits = r := by cases r <;> rfl

@[simp] theorem Reg.bits_ofBits (b : BitVec 4) : (Reg.ofBits b).bits = b := by
  revert b; decide

@[simp] theorem Cond.ofBits_bits (cond : Cond) : Cond.ofBits cond.bits = some cond := by cases cond <;> rfl

theorem Cond.bits_of_ofBits (b : BitVec 4) (cond : Cond) (h : Cond.ofBits b = some cond) : cond.bits = b := by
  revert h; revert b; cases cond <;> decide

/-- Dsp4's field holds every even number from -16 to 14. -/
theorem dsp4OfBits_dsp4Bits {d : Int} (h : dsp4Ok d = true) : dsp4OfBits (dsp4Bits d) = d := by
  obtain ⟨h1, h2, h3⟩ := of_decide_eq_true h
  unfold dsp4OfBits dsp4Bits
  rw [BitVec.toInt_ofInt_eq_self (by decide) (by omega) (by omega)]
  omega

@[simp] theorem dsp4Bits_dsp4OfBits (b : BitVec 4) : dsp4Bits (dsp4OfBits b) = b := by revert b; decide

@[simp] theorem dsp4Ok_dsp4OfBits (b : BitVec 4) : dsp4Ok (dsp4OfBits b) = true := by revert b; decide

/-- Imm4's field holds every number from -8 to 7. -/
theorem imm4OfBits_imm4Bits {v : Int} (h : imm4Ok v = true) : imm4OfBits (imm4Bits v) = v := by
  obtain ⟨h1, h2⟩ := of_decide_eq_true h
  unfold imm4OfBits imm4Bits
  exact BitVec.toInt_ofInt_eq_self (by decide) (by omega) (by omega)

@[simp] theorem imm4Bits_imm4OfBits (b : BitVec 4) : imm4Bits (imm4OfBits b) = b := by revert b; decide

@[simp] theorem imm4Ok_imm4OfBits (b : BitVec 4) : imm4Ok (imm4OfBits b) = true := by revert b; decide

/-! ## The first word -/

section
variable (op5 : BitVec 5) (mode : BitVec 3) (rd last : BitVec 4)

theorem firstWord_toNat :
    (firstWord op5 mode rd last).toNat = op5.toNat * 2048 + mode.toNat * 256 + rd.toNat * 16 + last.toNat := by
  have := mode.isLt; have := rd.isLt; have := last.isLt
  unfold firstWord
  rw [BitVec.toNat_append, BitVec.toNat_append, BitVec.toNat_append]
  rw [← Nat.shiftLeft_add_eq_or_of_lt (by omega), ← Nat.shiftLeft_add_eq_or_of_lt (by omega),
    ← Nat.shiftLeft_add_eq_or_of_lt (by omega)]
  simp only [Nat.shiftLeft_eq]; omega

@[simp] theorem fieldOp5_firstWord : fieldOp5 (firstWord op5 mode rd last) = op5 := by
  apply BitVec.eq_of_toNat_eq
  have := op5.isLt; have := mode.isLt; have := rd.isLt; have := last.isLt
  simp only [fieldOp5, BitVec.extractLsb'_toNat, firstWord_toNat, Nat.shiftRight_eq_div_pow]; omega

@[simp] theorem fieldMode_firstWord : fieldMode (firstWord op5 mode rd last) = mode := by
  apply BitVec.eq_of_toNat_eq
  have := op5.isLt; have := mode.isLt; have := rd.isLt; have := last.isLt
  simp only [fieldMode, BitVec.extractLsb'_toNat, firstWord_toNat, Nat.shiftRight_eq_div_pow]; omega

@[simp] theorem fieldRd_firstWord : fieldRd (firstWord op5 mode rd last) = rd := by
  apply BitVec.eq_of_toNat_eq
  have := op5.isLt; have := mode.isLt; have := rd.isLt; have := last.isLt
  simp only [fieldRd, BitVec.extractLsb'_toNat, firstWord_toNat, Nat.shiftRight_eq_div_pow]; omega

@[simp] theorem fieldLast_firstWord : fieldLast (firstWord op5 mode rd last) = last := by
  apply BitVec.eq_of_toNat_eq
  have := op5.isLt; have := mode.isLt; have := rd.isLt; have := last.isLt
  simp only [fieldLast, BitVec.extractLsb'_toNat, firstWord_toNat, Nat.shiftRight_eq_div_pow]; omega

end

/-- The four fields are the whole word. -/
theorem firstWord_fields (w : Word) : firstWord (fieldOp5 w) (fieldMode w) (fieldRd w) (fieldLast w) = w := by
  apply BitVec.eq_of_toNat_eq
  rw [firstWord_toNat]
  have := w.isLt
  simp only [fieldOp5, fieldMode, fieldRd, fieldLast, BitVec.extractLsb'_toNat, Nat.shiftRight_eq_div_pow]
  omega

/-- OP is its two fields. -/
theorem hiByte_toNat (w : Word) : (hiByte w).toNat = (fieldOp5 w).toNat * 8 + (fieldMode w).toNat := by
  have := w.isLt
  simp only [hiByte, fieldOp5, fieldMode, BitVec.extractLsb'_toNat, Nat.shiftRight_eq_div_pow]
  omega

/-! ## Well-formed operands -/

/-- The fields of an operand hold it. -/
def Operand.ok : Operand → Bool
  | .fpRlt d => dsp4Ok d
  | .imm4 v => imm4Ok v
  | .drct _ => true
  | .index _ _ => true
  | .imm _ => true
  | .reg _ => true
  | .indr _ => true
  | .bIndr _ => true

/-- The fields of a place hold it. -/
def Place.ok : Place → Bool
  | .fpRlt d => dsp4Ok d
  | .drct _ => true
  | .index _ _ => true
  | .indr _ => true
  | .bIndr _ => true

/-- The fields of a form's operand hold it. -/
def Form.ok : Form → Bool
  | .ld _ o => o.ok
  | .st _ p => p.ok
  | .arith _ _ o => o.ok
  | .shift _ _ o => o.ok
  | .no => true
  | .jump _ _ => true
  | .call _ => true
  | .input _ _ => true
  | .output _ _ => true
  | .push _ => true
  | .pop _ => true
  | .ret => true
  | .reti => true
  | .svc => true
  | .halt => true

theorem wf_eq_ok (i : Instr) : i.wf = i.form.ok := by cases i <;> rfl

/-! ## Operand fields -/

/-- How many words an operand adds to the first. -/
theorem Operand.encode_words (o : Operand) : (o.encode.1.toNat ≤ 2 ∧ ∃ w, o.encode.2.2 = [w]) ∨
    (2 < o.encode.1.toNat ∧ o.encode.2.2 = []) := by
  cases o <;> simp [Operand.encode]

/-- Decoding an operand's fields gives it back from the operand's second word. -/
theorem decodeOperand_encode {o : Operand} (h : o.ok = true) :
    ∃ f, decodeOperand o.encode.1 o.encode.2.1 = .ok f ∧ (∀ w, o.encode.2.2 = [w] → f w = o) ∧
      (o.encode.2.2 = [] → ∀ w, f w = o) := by
  cases o with
  | drct dsp => exact ⟨_, rfl, by simp [Operand.encode], by simp [Operand.encode]⟩
  | index dsp rx => exact ⟨_, rfl, by simp [Operand.encode], by simp [Operand.encode]⟩
  | imm v => exact ⟨_, rfl, by simp [Operand.encode], by simp [Operand.encode]⟩
  | fpRlt d =>
    refine ⟨_, rfl, by simp [Operand.encode], fun _ _ => ?_⟩
    show Operand.fpRlt (dsp4OfBits (dsp4Bits d)) = _
    rw [dsp4OfBits_dsp4Bits h]
  | reg rs => exact ⟨_, rfl, by simp [Operand.encode], by simp [Operand.encode]⟩
  | imm4 v =>
    refine ⟨_, rfl, by simp [Operand.encode], fun _ _ => ?_⟩
    show Operand.imm4 (imm4OfBits (imm4Bits v)) = _
    rw [imm4OfBits_imm4Bits h]
  | indr rx => exact ⟨_, rfl, by simp [Operand.encode], by simp [Operand.encode]⟩
  | bIndr rx => exact ⟨_, rfl, by simp [Operand.encode], by simp [Operand.encode]⟩

/-- The same for a place of ST. -/
theorem decodePlace_encode {p : Place} (h : p.ok = true) :
    ∃ f, decodePlace p.encode.1 p.encode.2.1 = .ok f ∧ (∀ w, p.encode.2.2 = [w] → f w = p) ∧
      (p.encode.2.2 = [] → ∀ w, f w = p) := by
  cases p with
  | drct dsp => exact ⟨_, rfl, by simp [Place.encode], by simp [Place.encode]⟩
  | index dsp rx => exact ⟨_, rfl, by simp [Place.encode], by simp [Place.encode]⟩
  | fpRlt d =>
    refine ⟨_, rfl, by simp [Place.encode], fun _ _ => ?_⟩
    show Place.fpRlt (dsp4OfBits (dsp4Bits d)) = _
    rw [dsp4OfBits_dsp4Bits h]
  | indr rx => exact ⟨_, rfl, by simp [Place.encode], by simp [Place.encode]⟩
  | bIndr rx => exact ⟨_, rfl, by simp [Place.encode], by simp [Place.encode]⟩

/-- The same for a target. -/
theorem decodeTarget_encode (t : Target) :
    ∃ f, decodeTarget t.encode.1 t.encode.2.1 = .ok f ∧ ∀ w, t.encode.2.2 = [w] → f w = t := by
  cases t with
  | drct dsp => exact ⟨_, rfl, by simp [Target.encode]⟩
  | index dsp rx => exact ⟨_, rfl, by simp [Target.encode]⟩

/-- The same for a port. -/
theorem decodePort_encode (p : Port) :
    ∃ f, decodePort p.encode.1 p.encode.2.1 = .ok f ∧ (∀ w, p.encode.2.2 = [w] → f w = p) ∧
      (p.encode.2.2 = [] → ∀ w, f w = p) := by
  cases p with
  | drct dsp => exact ⟨_, rfl, by simp [Port.encode], by simp [Port.encode]⟩
  | indr rx => exact ⟨_, rfl, by simp [Port.encode], by simp [Port.encode]⟩

end Sys2Proof
end

