-- ==== Sys2Proof/Laws/Ports.lean ====
section
/-! SUPPORT. For reading and writing a port, and for what the devices do between instructions: one lemma that says what each
can do. -/

namespace Sys2Proof.Machine

/-! ## Ports -/

theorem ioAddressOk_iff (a : Word) : ioAddressOk a = true ↔ a.toNat ≤ 0xFF ∧ a.getLsbD 0 = false := by
  simp [ioAddressOk]

theorem ioRead_ok {a : Word} {s : State} (h : ioAddressOk a = true) :
    ioRead a s = portRead a (s.appendTrace (.input a)) := by
  obtain ⟨h1, h2⟩ := (ioAddressOk_iff a).1 h
  simp only [ioRead, h2, if_neg (show ¬0xFF < a.toNat by omega), Bool.false_eq_true, if_false]

theorem ioWrite_ok {a v : Word} {s : State} (h : ioAddressOk a = true) :
    ioWrite a v s = portWrite a v (s.appendTrace (.output a v)) := by
  obtain ⟨h1, h2⟩ := (ioAddressOk_iff a).1 h
  simp only [ioWrite, h2, if_neg (show ¬0xFF < a.toNat by omega), Bool.false_eq_true, if_false]

/-- What reading a port leaves: the draw counter, the freshness of the violation register it reads, and what an IN does to
the devices. -/
structure PortReadFrame (a v : Word) (s t : State) : Prop where
  readPhys : ∀ r, t.readPhys r = s.readPhys r
  flag : t.flag = s.flag
  pc : t.pc = s.pc
  mem : t.mem = s.mem
  tlb : t.tlb = s.tlb
  iplDetached : t.iplDetached = s.iplDetached
  mmuEnabled : t.mmuEnabled = s.mmuEnabled
  violationAddress : t.violationAddress = s.violationAddress
  violationCause : t.violationCause = s.violationCause
  faultPage : t.faultPage = s.faultPage
  halted : t.halted = s.halted
  pending : t.pending = s.pending
  trace : t.trace = s.trace
  addressFresh : t.violationAddressFresh = if a = 0xA2 then false else s.violationAddressFresh
  causeFresh : t.violationCauseFresh = if a = 0xA4 then false else s.violationCauseFresh
  pageFresh : t.faultPageFresh = if a = 0xA6 then false else s.faultPageFresh
  dev : t.dev = devicesAfterIn a v s.dev

/-- A TLB port or a violation register is no device. -/
theorem devicesAfterIn_mmu {a : Word} (h : 0x80 ≤ a.toNat) (v : Word) (d : Devices) : devicesAfterIn a v d = d := by
  have n (k : Word) (hk : k.toNat < 0x80) : a ≠ k := fun e => by rw [e] at h; omega
  unfold devicesAfterIn
  rw [if_neg (n 0x00 (by decide)), if_neg (n 0x02 (by decide)), if_neg (n 0x04 (by decide)), if_neg (n 0x06 (by decide)),
    if_neg fun h => n 0x10 (by decide) h.1]

/-- A port other than a violation register leaves all but the devices. -/
theorem PortReadFrame.device {a : Word} (v : Word) (s : State) (h2 : a ≠ 0xA2) (h4 : a ≠ 0xA4) (h6 : a ≠ 0xA6) :
    PortReadFrame a v s (s.setDev (devicesAfterIn a v s.dev)) where
  readPhys := setDev_readPhys s _
  flag := rfl
  pc := rfl
  mem := rfl
  tlb := rfl
  iplDetached := rfl
  mmuEnabled := rfl
  violationAddress := rfl
  violationCause := rfl
  faultPage := rfl
  halted := rfl
  pending := rfl
  trace := rfl
  addressFresh := (if_neg h2).symm
  causeFresh := (if_neg h4).symm
  pageFresh := (if_neg h6).symm
  dev := rfl

/-- A TLB port leaves the state. -/
theorem PortReadFrame.tlbPort {a : Word} (v : Word) (s : State) (h : 0x80 ≤ a.toNat ∧ a.toNat < 0xA0) :
    PortReadFrame a v s s := by
  have := PortReadFrame.device v s (a := a) (by rintro rfl; revert h; decide) (by rintro rfl; revert h; decide)
    (by rintro rfl; revert h; decide)
  rwa [devicesAfterIn_mmu h.1] at this

/-- The draw counter is outside the frame. -/
theorem PortReadFrame.advanceDraws {a v : Word} {s t : State} (h : PortReadFrame a v s t) (n : Nat) :
    PortReadFrame a v s (t.advanceDraws n) :=
  { h with readPhys := fun r => (advanceDraws_readPhys t n r).trans (h.readPhys r) }

/-- The three violation registers. -/
theorem PortReadFrame.address (v : Word) (s : State) : PortReadFrame 0xA2 v s s.violationAddressRead := by
  constructor <;> first | exact violationAddressRead_readPhys s | rfl
theorem PortReadFrame.cause (v : Word) (s : State) : PortReadFrame 0xA4 v s s.violationCauseRead := by
  constructor <;> first | exact violationCauseRead_readPhys s | rfl
theorem PortReadFrame.page (v : Word) (s : State) : PortReadFrame 0xA6 v s s.faultPageRead := by
  constructor <;> first | exact faultPageRead_readPhys s | rfl
theorem isTlbPort_iff (a : Word) : isTlbPort a = true ↔ 0x80 ≤ a.toNat ∧ a.toNat < 0xA0 := by simp [isTlbPort]

/-- A port read always answers a value. -/
theorem portRead_done (a : Word) (s : State) : ∃ v t, portRead a s = .done v t ∧ PortReadFrame a v s t := by
  unfold portRead
  by_cases ht : isTlbPort a = true
  · have hq (v : Word) : PortReadFrame a v s s := .tlbPort v s ((isTlbPort_iff a).1 ht)
    rw [if_pos ht]
    unfold tlbPortRead
    dsimp only
    split
    · exact ⟨_, _, rfl, (hq _).advanceDraws 1⟩
    · exact ⟨_, _, rfl, hq _⟩
  rw [if_neg ht]
  by_cases h2 : a = 0xA2
  · subst h2; exact ⟨_, _, rfl, (PortReadFrame.address _ s).advanceDraws 1⟩
  by_cases h4 : a = 0xA4
  · subst h4; exact ⟨_, _, rfl, (PortReadFrame.cause _ s).advanceDraws 1⟩
  by_cases h6 : a = 0xA6
  · subst h6; exact ⟨_, _, rfl, (PortReadFrame.page _ s).advanceDraws 1⟩
  rw [if_neg h2, if_neg h4, if_neg h6]
  exact ⟨_, _, rfl, .device _ s h2 h4 h6⟩

/-- Every other port than those of the TLB and the violation registers reads the oracle. -/
theorem portRead_device {a : Word} (s : State) (ht : isTlbPort a = false) (h2 : a ≠ 0xA2) (h4 : a ≠ 0xA4) (h6 : a ≠ 0xA6) :
    portRead a s = devicePortRead a s := by
  unfold portRead; rw [ht, if_neg Bool.false_ne_true, if_neg h2, if_neg h4, if_neg h6]

/-- The two halves of an entry put together. -/
theorem tlbPage_append (page : Byte) (low : Word) : tlbPage (page ++ low : BitVec (8 + 16)) = page := by
  apply BitVec.eq_of_getLsbD_eq; intro i hi
  unfold tlbPage
  rw [BitVec.getLsbD_extractLsb', BitVec.getLsbD_append]
  have : ¬16 + i < 16 := by omega
  simp [hi, this]

theorem tlbLow_append (page : Byte) (low : Word) : (page ++ low : BitVec (8 + 16)).extractLsb' 0 16 = low := by
  apply BitVec.eq_of_getLsbD_eq; intro i hi
  rw [BitVec.getLsbD_extractLsb', BitVec.getLsbD_append]
  simp [hi]

/-- Everything a port write can do. -/
theorem portWrite_done {a v : Word} {s t : State} (h : portWrite a v s = .done () t) :
    (isTlbPort a = true ∧ t = s.setTlb (tlbAfterOut a v s.tlb)) ∨
    (isTlbPort a = false ∧ a = 0xA0 ∧ v.getLsbD 0 = true ∧ t = s.setIplDetached true) ∨
    (isTlbPort a = false ∧ a = 0xA2 ∧ t = s.setMmuEnabled (v.getLsbD 0)) ∨
    (isTlbPort a = false ∧ a ≠ 0xA0 ∧ a ≠ 0xA2 ∧ a ≠ 0xA4 ∧ a ≠ 0xA6 ∧ t = s.setDev (devicesAfterOut a v s.dev)) := by
  unfold portWrite at h
  cases h1 : isTlbPort a
  · rw [h1, if_neg (by decide)] at h
    by_cases h2 : a = 0xA0
    · rw [if_pos h2] at h
      cases h3 : v.getLsbD 0
      · rw [h3] at h; cases h
      · rw [h3] at h; injection h with _ h; exact .inr (.inl ⟨rfl, h2, rfl, h.symm⟩)
    · rw [if_neg h2] at h
      by_cases h3 : a = 0xA2
      · rw [if_pos h3] at h; injection h with _ h; exact .inr (.inr (.inl ⟨rfl, h3, h.symm⟩))
      · rw [if_neg h3] at h
        by_cases h4 : a = 0xA4 ∨ a = 0xA6
        · rw [if_pos h4] at h; cases h
        · rw [if_neg h4] at h; injection h with _ h
          exact .inr (.inr (.inr ⟨rfl, h2, h3, fun e => h4 (.inl e), fun e => h4 (.inr e), h.symm⟩))
  · rw [h1, if_pos rfl] at h; injection h with _ h; exact .inl ⟨rfl, h.symm⟩

theorem portWrite_not_raised (a v : Word) (s t : State) (e : Exc) : portWrite a v s ≠ .raised e t := by
  unfold portWrite; split_ifs <;> simp

theorem portRead_not_raised (a : Word) (s t : State) (e : Exc) : portRead a s ≠ .raised e t := by
  obtain ⟨v, u, h, _⟩ := portRead_done a s; rw [h]; simp

/-! ## Between two instructions -/

theorem samplePending_has (d : Devices) (trace : List IoEvent) (time : Nat) (src : IntSource) :
    (samplePending d trace time).has src = (sourceEnabled d src && Config.deviceRequests trace time src) := by
  cases src <;> rfl

/-- The devices' own progress changes no enable bit. -/
theorem sourceEnabled_timersRun (d : Devices) (trace : List IoEvent) (time : Nat) (src : IntSource) :
    sourceEnabled (timersRun d trace time) src = sourceEnabled d src := by cases src <;> rfl

@[simp] theorem devicesRun_pc (s : State) : (devicesRun s).pc = s.pc := by
  simp only [devicesRun, advanceDraws_pc, setPending_pc, setDev_pc, otherAgents_pc]
@[simp] theorem devicesRun_flag (s : State) : (devicesRun s).flag = s.flag := by
  simp only [devicesRun, advanceDraws_flag, setPending_flag, setDev_flag, otherAgents_flag]
@[simp] theorem devicesRun_tlb (s : State) : (devicesRun s).tlb = s.tlb := by
  simp only [devicesRun, advanceDraws_tlb, setPending_tlb, setDev_tlb, otherAgents_tlb]
@[simp] theorem devicesRun_iplDetached (s : State) : (devicesRun s).iplDetached = s.iplDetached := by
  simp only [devicesRun, advanceDraws_iplDetached, setPending_iplDetached, setDev_iplDetached, otherAgents_iplDetached]
@[simp] theorem devicesRun_mmuEnabled (s : State) : (devicesRun s).mmuEnabled = s.mmuEnabled := by
  simp only [devicesRun, advanceDraws_mmuEnabled, setPending_mmuEnabled, setDev_mmuEnabled, otherAgents_mmuEnabled]
@[simp] theorem devicesRun_violationAddress (s : State) : (devicesRun s).violationAddress = s.violationAddress := by
  simp only [devicesRun, advanceDraws_violationAddress, setPending_violationAddress, setDev_violationAddress, otherAgents_violationAddress]
@[simp] theorem devicesRun_violationAddressFresh (s : State) : (devicesRun s).violationAddressFresh = s.violationAddressFresh := by
  simp only [devicesRun, advanceDraws_violationAddressFresh, setPending_violationAddressFresh, setDev_violationAddressFresh, otherAgents_violationAddressFresh]
@[simp] theorem devicesRun_violationCause (s : State) : (devicesRun s).violationCause = s.violationCause := by
  simp only [devicesRun, advanceDraws_violationCause, setPending_violationCause, setDev_violationCause, otherAgents_violationCause]
@[simp] theorem devicesRun_violationCauseFresh (s : State) : (devicesRun s).violationCauseFresh = s.violationCauseFresh := by
  simp only [devicesRun, advanceDraws_violationCauseFresh, setPending_violationCauseFresh, setDev_violationCauseFresh, otherAgents_violationCauseFresh]
@[simp] theorem devicesRun_faultPage (s : State) : (devicesRun s).faultPage = s.faultPage := by
  simp only [devicesRun, advanceDraws_faultPage, setPending_faultPage, setDev_faultPage, otherAgents_faultPage]
@[simp] theorem devicesRun_faultPageFresh (s : State) : (devicesRun s).faultPageFresh = s.faultPageFresh := by
  simp only [devicesRun, advanceDraws_faultPageFresh, setPending_faultPageFresh, setDev_faultPageFresh, otherAgents_faultPageFresh]
@[simp] theorem devicesRun_halted (s : State) : (devicesRun s).halted = s.halted := by
  simp only [devicesRun, advanceDraws_halted, setPending_halted, setDev_halted, otherAgents_halted]
@[simp] theorem devicesRun_trace (s : State) : (devicesRun s).trace = s.trace := by
  simp only [devicesRun, advanceDraws_trace, setPending_trace, setDev_trace, otherAgents_trace]
@[simp] theorem devicesRun_mem (s : State) : (devicesRun s).mem = (otherAgents s).mem := by
  simp only [devicesRun, advanceDraws_mem, setPending_mem, setDev_mem]
@[simp] theorem devicesRun_readPhys (s : State) (r : PhysReg) : (devicesRun s).readPhys r = s.readPhys r := by
  simp only [devicesRun, advanceDraws_readPhys, setPending_readPhys, setDev_readPhys, otherAgents_readPhys]
@[simp] theorem devicesRun_dev (s : State) :
    (devicesRun s).dev = timersRun s.dev s.trace (otherAgents s).draws := by
  simp only [devicesRun, advanceDraws_dev, setPending_dev, setDev_dev, otherAgents_dev, otherAgents_trace]
@[simp] theorem devicesRun_pending (s : State) : (devicesRun s).pending =
    samplePending (timersRun s.dev s.trace (otherAgents s).draws) s.trace (otherAgents s).draws := by
  simp only [devicesRun, advanceDraws_pending, setPending_pending, otherAgents_dev, otherAgents_trace]

/-- A source requests between two steps exactly where it is enabled and its condition holds at that moment. -/
theorem devicesRun_requests (s : State) : ∃ time, (devicesRun s).draws = time + 1 ∧ ∀ src,
    (devicesRun s).pending.has src =
      (sourceEnabled (devicesRun s).dev src && Config.deviceRequests (devicesRun s).trace time src) :=
  ⟨(otherAgents s).draws, rfl, fun src => by rw [devicesRun_pending, devicesRun_dev, devicesRun_trace, samplePending_has]⟩

/-- The devices leave memory outside the buffers of running transfers. -/
theorem sameMemoryBut_devicesRun (s : State) : SameMemoryBut s.agentCells s (devicesRun s) := by
  intro a ha
  rw [← otherAgents_physByte ha]
  unfold State.physByte State.romShown
  rw [devicesRun_mem, devicesRun_iplDetached, otherAgents_iplDetached]

theorem thenDevices_next {r : Result} {t : State} : thenDevices r = .next t ↔ ∃ s, r = .next s ∧ t = devicesRun s := by
  cases r <;> simp [thenDevices, eq_comm]

/-- A source stands in every priority order. -/
theorem mem_allSources (src : IntSource) : src ∈ allSources := by cases src <;> decide

theorem mem_priority (src : IntSource) : src ∈ allSources.map Config.intPriority :=
  List.mem_map.2 ⟨Config.intPriority.symm src, mem_allSources _, Config.intPriority.apply_symm_apply src⟩

/-- No interrupt is taken exactly where E = 0 or nothing is pending. -/
theorem interruptToTake_none {s : State} :
    interruptToTake s = none ↔ s.flag.e = false ∨ ∀ src, s.pending.has src = false := by
  unfold interruptToTake
  cases s.flag.e <;> simp only [Bool.false_eq_true, if_false, if_true, true_or, reduceCtorEq, false_or, List.find?_eq_none,
    Bool.not_eq_true]
  exact ⟨fun h src => h src (mem_priority src), fun h x _ => h x⟩

end Sys2Proof.Machine
end

