-- ==== Sys2Proof/Laws/Exec.lean ====
section
/-! SUPPORT. `exec` of the instruction with a given structured view is the mnemonic's shared meaning, whatever the mode. -/

namespace Sys2Proof.Machine

theorem ofForm_form (i : Instr) : Instr.ofForm i.form = i := by cases i <;> rfl

theorem form_ofForm (f : Form) : (Instr.ofForm f).form = f := by
  cases f with
  | ld rd o => cases o <;> rfl
  | st rd p => cases p <;> rfl
  | arith op rd o => cases op <;> cases o <;> rfl
  | shift op rd o => cases op <;> cases o <;> rfl
  | jump cond t => cases cond <;> cases t <;> rfl
  | call t => cases t <;> rfl
  | input rd p => cases p <;> rfl
  | output rd p => cases p <;> rfl
  | no => rfl
  | push rd => rfl
  | pop rd => rfl
  | ret => rfl
  | reti => rfl
  | svc => rfl
  | halt => rfl

@[simp] theorem exec_no (s : State) : exec .no s = execNo s := rfl
@[simp] theorem exec_ld (rd : Reg) (o : Operand) (s : State) : exec (Instr.ofForm (.ld rd o)) s = execLd rd o s := by
  cases o <;> rfl
@[simp] theorem exec_st (rd : Reg) (p : Place) (s : State) : exec (Instr.ofForm (.st rd p)) s = execSt rd p s := by
  cases p <;> rfl
@[simp] theorem exec_add (rd : Reg) (o : Operand) (s : State) :
    exec (Instr.ofForm (.arith .add rd o)) s = execAdd rd o s := by cases o <;> rfl
@[simp] theorem exec_sub (rd : Reg) (o : Operand) (s : State) :
    exec (Instr.ofForm (.arith .sub rd o)) s = execSub rd o s := by cases o <;> rfl
@[simp] theorem exec_cmp (rd : Reg) (o : Operand) (s : State) :
    exec (Instr.ofForm (.arith .cmp rd o)) s = execCmp rd o s := by cases o <;> rfl
@[simp] theorem exec_and (rd : Reg) (o : Operand) (s : State) :
    exec (Instr.ofForm (.arith .and rd o)) s = execAnd rd o s := by cases o <;> rfl
@[simp] theorem exec_or (rd : Reg) (o : Operand) (s : State) :
    exec (Instr.ofForm (.arith .or rd o)) s = execOr rd o s := by cases o <;> rfl
@[simp] theorem exec_xor (rd : Reg) (o : Operand) (s : State) :
    exec (Instr.ofForm (.arith .xor rd o)) s = execXor rd o s := by cases o <;> rfl
@[simp] theorem exec_adds (rd : Reg) (o : Operand) (s : State) :
    exec (Instr.ofForm (.arith .adds rd o)) s = execAdds rd o s := by cases o <;> rfl
@[simp] theorem exec_mul (rd : Reg) (o : Operand) (s : State) :
    exec (Instr.ofForm (.arith .mul rd o)) s = execMul rd o s := by cases o <;> rfl
@[simp] theorem exec_div (rd : Reg) (o : Operand) (s : State) :
    exec (Instr.ofForm (.arith .div rd o)) s = execDiv rd o s := by cases o <;> rfl
@[simp] theorem exec_mod (rd : Reg) (o : Operand) (s : State) :
    exec (Instr.ofForm (.arith .mod rd o)) s = execMod rd o s := by cases o <;> rfl
@[simp] theorem exec_shla (rd : Reg) (o : Operand) (s : State) :
    exec (Instr.ofForm (.shift .shla rd o)) s = execShla rd o s := by cases o <;> rfl
@[simp] theorem exec_shll (rd : Reg) (o : Operand) (s : State) :
    exec (Instr.ofForm (.shift .shll rd o)) s = execShll rd o s := by cases o <;> rfl
@[simp] theorem exec_shra (rd : Reg) (o : Operand) (s : State) :
    exec (Instr.ofForm (.shift .shra rd o)) s = execShra rd o s := by cases o <;> rfl
@[simp] theorem exec_shrl (rd : Reg) (o : Operand) (s : State) :
    exec (Instr.ofForm (.shift .shrl rd o)) s = execShrl rd o s := by cases o <;> rfl
@[simp] theorem exec_jz (t : Target) (s : State) : exec (Instr.ofForm (.jump .z t)) s = execJz t s := by
  cases t <;> rfl
@[simp] theorem exec_jc (t : Target) (s : State) : exec (Instr.ofForm (.jump .c t)) s = execJc t s := by
  cases t <;> rfl
@[simp] theorem exec_jm (t : Target) (s : State) : exec (Instr.ofForm (.jump .m t)) s = execJm t s := by
  cases t <;> rfl
@[simp] theorem exec_jo (t : Target) (s : State) : exec (Instr.ofForm (.jump .o t)) s = execJo t s := by
  cases t <;> rfl
@[simp] theorem exec_jgt (t : Target) (s : State) : exec (Instr.ofForm (.jump .gt t)) s = execJgt t s := by
  cases t <;> rfl
@[simp] theorem exec_jge (t : Target) (s : State) : exec (Instr.ofForm (.jump .ge t)) s = execJge t s := by
  cases t <;> rfl
@[simp] theorem exec_jle (t : Target) (s : State) : exec (Instr.ofForm (.jump .le t)) s = execJle t s := by
  cases t <;> rfl
@[simp] theorem exec_jlt (t : Target) (s : State) : exec (Instr.ofForm (.jump .lt t)) s = execJlt t s := by
  cases t <;> rfl
@[simp] theorem exec_jnz (t : Target) (s : State) : exec (Instr.ofForm (.jump .nz t)) s = execJnz t s := by
  cases t <;> rfl
@[simp] theorem exec_jnc (t : Target) (s : State) : exec (Instr.ofForm (.jump .nc t)) s = execJnc t s := by
  cases t <;> rfl
@[simp] theorem exec_jnm (t : Target) (s : State) : exec (Instr.ofForm (.jump .nm t)) s = execJnm t s := by
  cases t <;> rfl
@[simp] theorem exec_jno (t : Target) (s : State) : exec (Instr.ofForm (.jump .no t)) s = execJno t s := by
  cases t <;> rfl
@[simp] theorem exec_jhi (t : Target) (s : State) : exec (Instr.ofForm (.jump .hi t)) s = execJhi t s := by
  cases t <;> rfl
@[simp] theorem exec_jls (t : Target) (s : State) : exec (Instr.ofForm (.jump .ls t)) s = execJls t s := by
  cases t <;> rfl
@[simp] theorem exec_jmp (t : Target) (s : State) : exec (Instr.ofForm (.jump .always t)) s = execJmp t s := by
  cases t <;> rfl
@[simp] theorem exec_jump (cond : Cond) (t : Target) (s : State) :
    exec (Instr.ofForm (.jump cond t)) s = execJump cond t s := by
  cases cond <;> cases t <;> rfl
@[simp] theorem exec_call (t : Target) (s : State) : exec (Instr.ofForm (.call t)) s = execCall t s := by cases t <;> rfl
@[simp] theorem exec_input (rd : Reg) (p : Port) (s : State) : exec (Instr.ofForm (.input rd p)) s = execIn rd p s := by
  cases p <;> rfl
@[simp] theorem exec_output (rd : Reg) (p : Port) (s : State) : exec (Instr.ofForm (.output rd p)) s = execOut rd p s := by
  cases p <;> rfl

/-- What a flag-changing instruction computes (R145 to R155). -/
def arithCompute : ArithOp → Word → Word → Nat → Computed
  | .add => computeAdd | .sub => computeSub | .cmp => computeSub | .and => computeAnd | .or => computeOr
  | .xor => computeXor | .adds => computeAdds | .mul => computeMul | .div => computeDiv | .mod => computeMod

/-- What a shift computes (R163 to R166). -/
def shiftCompute : ShiftOp → Word → Word → Nat → Computed
  | .shla => computeShla | .shll => computeShll | .shra => computeShra | .shrl => computeShrl

theorem exec_shift (op : ShiftOp) (rd : Reg) (o : Operand) (s : State) :
    exec (Instr.ofForm (.shift op rd o)) s = execBinary (shiftCompute op) rd o s := by cases op <;> cases o <;> rfl

/-- The three shapes of the arithmetic and logic instructions. -/
theorem exec_arith (op : ArithOp) (rd : Reg) (o : Operand) (s : State) :
    exec (Instr.ofForm (.arith op rd o)) s =
      match op with
      | .cmp => execCmp rd o s
      | .div => execDivision computeDiv rd o s
      | .mod => execDivision computeMod rd o s
      | .add => execBinary computeAdd rd o s
      | .sub => execBinary computeSub rd o s
      | .and => execBinary computeAnd rd o s
      | .or => execBinary computeOr rd o s
      | .xor => execBinary computeXor rd o s
      | .adds => execBinary computeAdds rd o s
      | .mul => execBinary computeMul rd o s := by cases op <;> cases o <;> rfl

/-- A flag-changing instruction that goes on: the result is committed over the operand read's state. -/
theorem execBinary_done {f : Word → Word → Nat → Computed} {rd : Reg} {o : Operand} {s s1 : State} {b : Word}
    (hrd : rd ≠ .flag) (ho : readOperand o s = .done b s1) :
    execBinary f rd o s = .next (commitResult rd (f (s.readReg rd) b s.draws) (s.pc + operandSize o) s1) := by
  simp only [execBinary, hrd, if_false, ho, complete_done]

theorem execBinary_raised {f : Word → Word → Nat → Computed} {rd : Reg} {o : Operand} {s s1 : State} {e : Exc}
    (hrd : rd ≠ .flag) (ho : readOperand o s = .raised e s1) :
    execBinary f rd o s = takeException e s.pc (s.pc + operandSize o) s1 := by
  simp only [execBinary, hrd, if_false, ho, complete_raised]

theorem execDivision_done {f : Word → Word → Nat → Computed} {rd : Reg} {o : Operand} {s s1 : State} {b : Word}
    (hrd : rd ≠ .flag) (ho : readOperand o s = .done b s1) (hb : b ≠ 0) :
    execDivision f rd o s = .next (commitResult rd (f (s.readReg rd) b s.draws) (s.pc + operandSize o) s1) := by
  simp only [execDivision, hrd, if_false, ho, complete_done, if_neg hb]

theorem execDivision_zero {f : Word → Word → Nat → Computed} {rd : Reg} {o : Operand} {s s1 : State}
    (hrd : rd ≠ .flag) (ho : readOperand o s = .done 0 s1) :
    execDivision f rd o s = takeException .zeroDivide s.pc (s.pc + operandSize o) s1 := by
  simp only [execDivision, hrd, if_false, ho, complete_done, if_true]

theorem execDivision_raised {f : Word → Word → Nat → Computed} {rd : Reg} {o : Operand} {s s1 : State} {e : Exc}
    (hrd : rd ≠ .flag) (ho : readOperand o s = .raised e s1) :
    execDivision f rd o s = takeException e s.pc (s.pc + operandSize o) s1 := by
  simp only [execDivision, hrd, if_false, ho, complete_raised]

theorem execCmp_done {rd : Reg} {o : Operand} {s s1 : State} {b : Word} (ho : readOperand o s = .done b s1) :
    execCmp rd o s = .next (commitFlags (computeSub (s.readReg rd) b s.draws) (s.pc + operandSize o) s1) := by
  simp only [execCmp, ho, complete_done]

theorem execCmp_raised {rd : Reg} {o : Operand} {s s1 : State} {e : Exc} (ho : readOperand o s = .raised e s1) :
    execCmp rd o s = takeException e s.pc (s.pc + operandSize o) s1 := by
  simp only [execCmp, ho, complete_raised]

/-! ## Committing a result -/

theorem commitFlags_pc (x : Computed) (next : Word) (s : State) : (commitFlags x next s).pc = next := rfl

theorem commitFlags_flag (x : Computed) (next : Word) (s : State) :
    (commitFlags x next s).flag = s.flag.after x.r x.c x.v := rfl

theorem commitResult_pc (rd : Reg) (x : Computed) (next : Word) (s : State) : (commitResult rd x next s).pc = next := rfl

theorem commitResult_flag {rd : Reg} (h : rd ≠ .flag) (x : Computed) (next : Word) (s : State) :
    (commitResult rd x next s).flag = s.flag.after x.r x.c x.v := by
  simp only [commitResult, setPc_flag, advanceDraws_flag, writeReg_flag, if_neg h, setFlag_flag]

theorem commitResult_readPhys {rd : Reg} (h : rd ≠ .flag) (x : Computed) (next : Word) (s : State) (q : PhysReg) :
    (commitResult rd x next s).readPhys q =
      if q = physOf rd s.flag.p then x.r else if q = .flag then (s.flag.after x.r x.c x.v).toWord else s.readPhys q := by
  simp only [commitResult, setPc_readPhys, advanceDraws_readPhys, State.writeReg, setFlag_flag, after_p,
    readPhys_writePhys, readPhys_setFlag, physOf_eq_flag, if_neg h]

/-- The frame of a committed result. -/
theorem commitResult_frame {rd : Reg} (h : rd ≠ .flag) (x : Computed) (next : Word) {s s1 : State} (u : Vector (BitVec 24) 8)
    (hs1 : s1 = s.setTlb u) :
    FlagChangeFrame [physOf rd s.flag.p] x.r u s (commitResult rd x next s1) := by
  subst hs1
  refine ⟨?_, ?_, ?_, ?_, ?_, ?_, ?_⟩
  · rw [commitResult_flag h]; rfl
  · rw [commitResult_flag h, BitVec.msb_eq_getLsbD_last]; rfl
  · unfold SameSystemFlags; rw [commitResult_flag h]; exact ⟨rfl, rfl, rfl, rfl⟩
  · intro q hq
    simp only [List.mem_cons, List.not_mem_nil, or_false, not_or] at hq
    rw [commitResult_readPhys h, setTlb_flag, if_neg hq.2, if_neg hq.1, setTlb_readPhys]
  · intro a
    simp only [commitResult, setPc_physByte, advanceDraws_physByte, writeReg_physByte, setFlag_physByte, setTlb_physByte]
  · simp [SameControl, commitResult]
  · simp only [commitResult, setPc_tlb, advanceDraws_tlb, writeReg_tlb, setFlag_tlb, setTlb_tlb]

/-- The frame of committed flags. -/
theorem commitFlags_frame (x : Computed) (next : Word) {s s1 : State} (u : Vector (BitVec 24) 8)
    (hs1 : s1 = s.setTlb u) : FlagChangeFrame [] x.r u s (commitFlags x next s1) := by
  subst hs1
  refine ⟨?_, ?_, ?_, ?_, ?_, ?_, ?_⟩
  · rw [commitFlags_flag]; rfl
  · rw [commitFlags_flag, BitVec.msb_eq_getLsbD_last]; rfl
  · unfold SameSystemFlags; rw [commitFlags_flag]; exact ⟨rfl, rfl, rfl, rfl⟩
  · intro q hq
    simp only [List.mem_cons, List.not_mem_nil, or_false] at hq
    simp only [commitFlags, setPc_readPhys, advanceDraws_readPhys, readPhys_setFlag, if_neg hq, setTlb_readPhys]
  · intro a
    simp only [commitFlags, setPc_physByte, advanceDraws_physByte, setFlag_physByte, setTlb_physByte]
  · simp [SameControl, commitFlags]
  · simp only [commitFlags, setPc_tlb, advanceDraws_tlb, setFlag_tlb, setTlb_tlb]

end Sys2Proof.Machine
end

