-- ==== Sys2Proof/Tests/Slice0.lean ====
section
/-! SUPPORT. Tests: the ill-formed terms `WellFormed` refuses, every constructor's word decoded, single steps with the
results of 95_test_vectors.md, and for each statement of Obligations.lean with hypotheses a state that meets them. -/

namespace Sys2Proof.Tests

open Sys2Proof.Machine

/-! ## WellFormed (R85) -/

theorem test_wf_dsp4_odd : (Instr.ldFpRlt .g1 3).wf = false := by decide
theorem test_wf_dsp4_above : (Instr.stFpRlt .g1 16).wf = false := by decide
theorem test_wf_dsp4_below : (Instr.addFpRlt .g1 (-18)).wf = false := by decide
theorem test_wf_imm4_above : (Instr.ldImm4 .g1 8).wf = false := by decide
theorem test_wf_imm4_below : (Instr.shrlImm4 .g1 (-9)).wf = false := by decide

/-! ## Decoding: one word per row of the opcode table, written out from 30_encoding.md (Rd = 1, Rx = 2, Rs = 3,
Dsp4 = -4, Imm4 = -3, second word 89ABh) -/

/-- The instruction that a list of words is, whole. -/
def decodeWords (ws : List Word) : Option Instr :=
  match decode (bytesOfWords ws) with
  | .ok (i, []) => some i
  | .ok (_, _ :: _) => none
  | .error _ => none

/-- The words of NO from the encodings of 30_encoding.md. -/
theorem test_decode_no :
    [decodeWords [0b0000000000000000]] =
    [some (.no)] := rfl

/-- The words of LD from the encodings of 30_encoding.md. -/
theorem test_decode_ld :
    [decodeWords [0b0000100000010000, 0x89AB],
     decodeWords [0b0000100100010010, 0x89AB],
     decodeWords [0b0000101000010000, 0x89AB],
     decodeWords [0b0000101100011110],
     decodeWords [0b0000110000010011],
     decodeWords [0b0000110100011101],
     decodeWords [0b0000111000010010],
     decodeWords [0b0000111100010010]] =
    [some (.ldDrct .g1 0x89AB),
     some (.ldIndex .g1 0x89AB .g2),
     some (.ldImm .g1 0x89AB),
     some (.ldFpRlt .g1 (-4)),
     some (.ldReg .g1 .g3),
     some (.ldImm4 .g1 (-3)),
     some (.ldIndr .g1 .g2),
     some (.ldBIndr .g1 .g2)] := rfl

/-- The words of ST from the encodings of 30_encoding.md. -/
theorem test_decode_st :
    [decodeWords [0b0001000000010000, 0x89AB],
     decodeWords [0b0001000100010010, 0x89AB],
     decodeWords [0b0001001100011110],
     decodeWords [0b0001011000010010],
     decodeWords [0b0001011100010010]] =
    [some (.stDrct .g1 0x89AB),
     some (.stIndex .g1 0x89AB .g2),
     some (.stFpRlt .g1 (-4)),
     some (.stIndr .g1 .g2),
     some (.stBIndr .g1 .g2)] := rfl

/-- The words of ADD from the encodings of 30_encoding.md. -/
theorem test_decode_add :
    [decodeWords [0b0001100000010000, 0x89AB],
     decodeWords [0b0001100100010010, 0x89AB],
     decodeWords [0b0001101000010000, 0x89AB],
     decodeWords [0b0001101100011110],
     decodeWords [0b0001110000010011],
     decodeWords [0b0001110100011101],
     decodeWords [0b0001111000010010],
     decodeWords [0b0001111100010010]] =
    [some (.addDrct .g1 0x89AB),
     some (.addIndex .g1 0x89AB .g2),
     some (.addImm .g1 0x89AB),
     some (.addFpRlt .g1 (-4)),
     some (.addReg .g1 .g3),
     some (.addImm4 .g1 (-3)),
     some (.addIndr .g1 .g2),
     some (.addBIndr .g1 .g2)] := rfl

/-- The words of SUB from the encodings of 30_encoding.md. -/
theorem test_decode_sub :
    [decodeWords [0b0010000000010000, 0x89AB],
     decodeWords [0b0010000100010010, 0x89AB],
     decodeWords [0b0010001000010000, 0x89AB],
     decodeWords [0b0010001100011110],
     decodeWords [0b0010010000010011],
     decodeWords [0b0010010100011101],
     decodeWords [0b0010011000010010],
     decodeWords [0b0010011100010010]] =
    [some (.subDrct .g1 0x89AB),
     some (.subIndex .g1 0x89AB .g2),
     some (.subImm .g1 0x89AB),
     some (.subFpRlt .g1 (-4)),
     some (.subReg .g1 .g3),
     some (.subImm4 .g1 (-3)),
     some (.subIndr .g1 .g2),
     some (.subBIndr .g1 .g2)] := rfl

/-- The words of CMP from the encodings of 30_encoding.md. -/
theorem test_decode_cmp :
    [decodeWords [0b0010100000010000, 0x89AB],
     decodeWords [0b0010100100010010, 0x89AB],
     decodeWords [0b0010101000010000, 0x89AB],
     decodeWords [0b0010101100011110],
     decodeWords [0b0010110000010011],
     decodeWords [0b0010110100011101],
     decodeWords [0b0010111000010010],
     decodeWords [0b0010111100010010]] =
    [some (.cmpDrct .g1 0x89AB),
     some (.cmpIndex .g1 0x89AB .g2),
     some (.cmpImm .g1 0x89AB),
     some (.cmpFpRlt .g1 (-4)),
     some (.cmpReg .g1 .g3),
     some (.cmpImm4 .g1 (-3)),
     some (.cmpIndr .g1 .g2),
     some (.cmpBIndr .g1 .g2)] := rfl

/-- The words of AND from the encodings of 30_encoding.md. -/
theorem test_decode_and :
    [decodeWords [0b0011000000010000, 0x89AB],
     decodeWords [0b0011000100010010, 0x89AB],
     decodeWords [0b0011001000010000, 0x89AB],
     decodeWords [0b0011001100011110],
     decodeWords [0b0011010000010011],
     decodeWords [0b0011010100011101],
     decodeWords [0b0011011000010010],
     decodeWords [0b0011011100010010]] =
    [some (.andDrct .g1 0x89AB),
     some (.andIndex .g1 0x89AB .g2),
     some (.andImm .g1 0x89AB),
     some (.andFpRlt .g1 (-4)),
     some (.andReg .g1 .g3),
     some (.andImm4 .g1 (-3)),
     some (.andIndr .g1 .g2),
     some (.andBIndr .g1 .g2)] := rfl

/-- The words of OR from the encodings of 30_encoding.md. -/
theorem test_decode_or :
    [decodeWords [0b0011100000010000, 0x89AB],
     decodeWords [0b0011100100010010, 0x89AB],
     decodeWords [0b0011101000010000, 0x89AB],
     decodeWords [0b0011101100011110],
     decodeWords [0b0011110000010011],
     decodeWords [0b0011110100011101],
     decodeWords [0b0011111000010010],
     decodeWords [0b0011111100010010]] =
    [some (.orDrct .g1 0x89AB),
     some (.orIndex .g1 0x89AB .g2),
     some (.orImm .g1 0x89AB),
     some (.orFpRlt .g1 (-4)),
     some (.orReg .g1 .g3),
     some (.orImm4 .g1 (-3)),
     some (.orIndr .g1 .g2),
     some (.orBIndr .g1 .g2)] := rfl

/-- The words of XOR from the encodings of 30_encoding.md. -/
theorem test_decode_xor :
    [decodeWords [0b0100000000010000, 0x89AB],
     decodeWords [0b0100000100010010, 0x89AB],
     decodeWords [0b0100001000010000, 0x89AB],
     decodeWords [0b0100001100011110],
     decodeWords [0b0100010000010011],
     decodeWords [0b0100010100011101],
     decodeWords [0b0100011000010010],
     decodeWords [0b0100011100010010]] =
    [some (.xorDrct .g1 0x89AB),
     some (.xorIndex .g1 0x89AB .g2),
     some (.xorImm .g1 0x89AB),
     some (.xorFpRlt .g1 (-4)),
     some (.xorReg .g1 .g3),
     some (.xorImm4 .g1 (-3)),
     some (.xorIndr .g1 .g2),
     some (.xorBIndr .g1 .g2)] := rfl

/-- The words of ADDS from the encodings of 30_encoding.md. -/
theorem test_decode_adds :
    [decodeWords [0b0100100000010000, 0x89AB],
     decodeWords [0b0100100100010010, 0x89AB],
     decodeWords [0b0100101000010000, 0x89AB],
     decodeWords [0b0100101100011110],
     decodeWords [0b0100110000010011],
     decodeWords [0b0100110100011101],
     decodeWords [0b0100111000010010],
     decodeWords [0b0100111100010010]] =
    [some (.addsDrct .g1 0x89AB),
     some (.addsIndex .g1 0x89AB .g2),
     some (.addsImm .g1 0x89AB),
     some (.addsFpRlt .g1 (-4)),
     some (.addsReg .g1 .g3),
     some (.addsImm4 .g1 (-3)),
     some (.addsIndr .g1 .g2),
     some (.addsBIndr .g1 .g2)] := rfl

/-- The words of MUL from the encodings of 30_encoding.md. -/
theorem test_decode_mul :
    [decodeWords [0b0101000000010000, 0x89AB],
     decodeWords [0b0101000100010010, 0x89AB],
     decodeWords [0b0101001000010000, 0x89AB],
     decodeWords [0b0101001100011110],
     decodeWords [0b0101010000010011],
     decodeWords [0b0101010100011101],
     decodeWords [0b0101011000010010],
     decodeWords [0b0101011100010010]] =
    [some (.mulDrct .g1 0x89AB),
     some (.mulIndex .g1 0x89AB .g2),
     some (.mulImm .g1 0x89AB),
     some (.mulFpRlt .g1 (-4)),
     some (.mulReg .g1 .g3),
     some (.mulImm4 .g1 (-3)),
     some (.mulIndr .g1 .g2),
     some (.mulBIndr .g1 .g2)] := rfl

/-- The words of DIV from the encodings of 30_encoding.md. -/
theorem test_decode_div :
    [decodeWords [0b0101100000010000, 0x89AB],
     decodeWords [0b0101100100010010, 0x89AB],
     decodeWords [0b0101101000010000, 0x89AB],
     decodeWords [0b0101101100011110],
     decodeWords [0b0101110000010011],
     decodeWords [0b0101110100011101],
     decodeWords [0b0101111000010010],
     decodeWords [0b0101111100010010]] =
    [some (.divDrct .g1 0x89AB),
     some (.divIndex .g1 0x89AB .g2),
     some (.divImm .g1 0x89AB),
     some (.divFpRlt .g1 (-4)),
     some (.divReg .g1 .g3),
     some (.divImm4 .g1 (-3)),
     some (.divIndr .g1 .g2),
     some (.divBIndr .g1 .g2)] := rfl

/-- The words of MOD from the encodings of 30_encoding.md. -/
theorem test_decode_mod :
    [decodeWords [0b0110000000010000, 0x89AB],
     decodeWords [0b0110000100010010, 0x89AB],
     decodeWords [0b0110001000010000, 0x89AB],
     decodeWords [0b0110001100011110],
     decodeWords [0b0110010000010011],
     decodeWords [0b0110010100011101],
     decodeWords [0b0110011000010010],
     decodeWords [0b0110011100010010]] =
    [some (.modDrct .g1 0x89AB),
     some (.modIndex .g1 0x89AB .g2),
     some (.modImm .g1 0x89AB),
     some (.modFpRlt .g1 (-4)),
     some (.modReg .g1 .g3),
     some (.modImm4 .g1 (-3)),
     some (.modIndr .g1 .g2),
     some (.modBIndr .g1 .g2)] := rfl

/-- The words of SHLA from the encodings of 30_encoding.md. -/
theorem test_decode_shla :
    [decodeWords [0b1000000000010000, 0x89AB],
     decodeWords [0b1000000100010010, 0x89AB],
     decodeWords [0b1000001000010000, 0x89AB],
     decodeWords [0b1000001100011110],
     decodeWords [0b1000010000010011],
     decodeWords [0b1000010100011101],
     decodeWords [0b1000011000010010],
     decodeWords [0b1000011100010010]] =
    [some (.shlaDrct .g1 0x89AB),
     some (.shlaIndex .g1 0x89AB .g2),
     some (.shlaImm .g1 0x89AB),
     some (.shlaFpRlt .g1 (-4)),
     some (.shlaReg .g1 .g3),
     some (.shlaImm4 .g1 (-3)),
     some (.shlaIndr .g1 .g2),
     some (.shlaBIndr .g1 .g2)] := rfl

/-- The words of SHLL from the encodings of 30_encoding.md. -/
theorem test_decode_shll :
    [decodeWords [0b1000100000010000, 0x89AB],
     decodeWords [0b1000100100010010, 0x89AB],
     decodeWords [0b1000101000010000, 0x89AB],
     decodeWords [0b1000101100011110],
     decodeWords [0b1000110000010011],
     decodeWords [0b1000110100011101],
     decodeWords [0b1000111000010010],
     decodeWords [0b1000111100010010]] =
    [some (.shllDrct .g1 0x89AB),
     some (.shllIndex .g1 0x89AB .g2),
     some (.shllImm .g1 0x89AB),
     some (.shllFpRlt .g1 (-4)),
     some (.shllReg .g1 .g3),
     some (.shllImm4 .g1 (-3)),
     some (.shllIndr .g1 .g2),
     some (.shllBIndr .g1 .g2)] := rfl

/-- The words of SHRA from the encodings of 30_encoding.md. -/
theorem test_decode_shra :
    [decodeWords [0b1001000000010000, 0x89AB],
     decodeWords [0b1001000100010010, 0x89AB],
     decodeWords [0b1001001000010000, 0x89AB],
     decodeWords [0b1001001100011110],
     decodeWords [0b1001010000010011],
     decodeWords [0b1001010100011101],
     decodeWords [0b1001011000010010],
     decodeWords [0b1001011100010010]] =
    [some (.shraDrct .g1 0x89AB),
     some (.shraIndex .g1 0x89AB .g2),
     some (.shraImm .g1 0x89AB),
     some (.shraFpRlt .g1 (-4)),
     some (.shraReg .g1 .g3),
     some (.shraImm4 .g1 (-3)),
     some (.shraIndr .g1 .g2),
     some (.shraBIndr .g1 .g2)] := rfl

/-- The words of SHRL from the encodings of 30_encoding.md. -/
theorem test_decode_shrl :
    [decodeWords [0b1001100000010000, 0x89AB],
     decodeWords [0b1001100100010010, 0x89AB],
     decodeWords [0b1001101000010000, 0x89AB],
     decodeWords [0b1001101100011110],
     decodeWords [0b1001110000010011],
     decodeWords [0b1001110100011101],
     decodeWords [0b1001111000010010],
     decodeWords [0b1001111100010010]] =
    [some (.shrlDrct .g1 0x89AB),
     some (.shrlIndex .g1 0x89AB .g2),
     some (.shrlImm .g1 0x89AB),
     some (.shrlFpRlt .g1 (-4)),
     some (.shrlReg .g1 .g3),
     some (.shrlImm4 .g1 (-3)),
     some (.shrlIndr .g1 .g2),
     some (.shrlBIndr .g1 .g2)] := rfl

/-- The words of the jumps, mode Drct from the encodings of 30_encoding.md. -/
theorem test_decode_jump_drct :
    [decodeWords [0b1010000000000000, 0x89AB],
     decodeWords [0b1010000000010000, 0x89AB],
     decodeWords [0b1010000000100000, 0x89AB],
     decodeWords [0b1010000000110000, 0x89AB],
     decodeWords [0b1010000001000000, 0x89AB],
     decodeWords [0b1010000001010000, 0x89AB],
     decodeWords [0b1010000001100000, 0x89AB],
     decodeWords [0b1010000001110000, 0x89AB],
     decodeWords [0b1010000010000000, 0x89AB],
     decodeWords [0b1010000010010000, 0x89AB],
     decodeWords [0b1010000010100000, 0x89AB],
     decodeWords [0b1010000010110000, 0x89AB],
     decodeWords [0b1010000011000000, 0x89AB],
     decodeWords [0b1010000011100000, 0x89AB],
     decodeWords [0b1010000011110000, 0x89AB]] =
    [some (.jzDrct 0x89AB),
     some (.jcDrct 0x89AB),
     some (.jmDrct 0x89AB),
     some (.joDrct 0x89AB),
     some (.jgtDrct 0x89AB),
     some (.jgeDrct 0x89AB),
     some (.jleDrct 0x89AB),
     some (.jltDrct 0x89AB),
     some (.jnzDrct 0x89AB),
     some (.jncDrct 0x89AB),
     some (.jnmDrct 0x89AB),
     some (.jnoDrct 0x89AB),
     some (.jhiDrct 0x89AB),
     some (.jlsDrct 0x89AB),
     some (.jmpDrct 0x89AB)] := rfl

/-- The words of the jumps, mode Index from the encodings of 30_encoding.md. -/
theorem test_decode_jump_index :
    [decodeWords [0b1010000100000010, 0x89AB],
     decodeWords [0b1010000100010010, 0x89AB],
     decodeWords [0b1010000100100010, 0x89AB],
     decodeWords [0b1010000100110010, 0x89AB],
     decodeWords [0b1010000101000010, 0x89AB],
     decodeWords [0b1010000101010010, 0x89AB],
     decodeWords [0b1010000101100010, 0x89AB],
     decodeWords [0b1010000101110010, 0x89AB],
     decodeWords [0b1010000110000010, 0x89AB],
     decodeWords [0b1010000110010010, 0x89AB],
     decodeWords [0b1010000110100010, 0x89AB],
     decodeWords [0b1010000110110010, 0x89AB],
     decodeWords [0b1010000111000010, 0x89AB],
     decodeWords [0b1010000111100010, 0x89AB],
     decodeWords [0b1010000111110010, 0x89AB]] =
    [some (.jzIndex 0x89AB .g2),
     some (.jcIndex 0x89AB .g2),
     some (.jmIndex 0x89AB .g2),
     some (.joIndex 0x89AB .g2),
     some (.jgtIndex 0x89AB .g2),
     some (.jgeIndex 0x89AB .g2),
     some (.jleIndex 0x89AB .g2),
     some (.jltIndex 0x89AB .g2),
     some (.jnzIndex 0x89AB .g2),
     some (.jncIndex 0x89AB .g2),
     some (.jnmIndex 0x89AB .g2),
     some (.jnoIndex 0x89AB .g2),
     some (.jhiIndex 0x89AB .g2),
     some (.jlsIndex 0x89AB .g2),
     some (.jmpIndex 0x89AB .g2)] := rfl

/-- The words of CALL from the encodings of 30_encoding.md. -/
theorem test_decode_call :
    [decodeWords [0b1010100000000000, 0x89AB],
     decodeWords [0b1010100100000010, 0x89AB]] =
    [some (.callDrct 0x89AB),
     some (.callIndex 0x89AB .g2)] := rfl

/-- The words of IN and OUT from the encodings of 30_encoding.md. -/
theorem test_decode_io :
    [decodeWords [0b1011000000010000, 0x89AB],
     decodeWords [0b1011011000010010],
     decodeWords [0b1011100000010000, 0x89AB],
     decodeWords [0b1011111000010010]] =
    [some (.inDrct .g1 0x89AB),
     some (.inIndr .g1 .g2),
     some (.outDrct .g1 0x89AB),
     some (.outIndr .g1 .g2)] := rfl

/-- The words of PUSH, POP, RET, RETI, SVC and HALT from the encodings of 30_encoding.md. -/
theorem test_decode_stack_and_system :
    [decodeWords [0b1100000000010000],
     decodeWords [0b1100010000010000],
     decodeWords [0b1101000000000000],
     decodeWords [0b1101010011110000],
     decodeWords [0b1111000000000000],
     decodeWords [0b1111111100000000]] =
    [some (.push .g1),
     some (.pop .g1),
     some (.ret),
     some (.reti),
     some (.svc),
     some (.halt)] := rfl

/-! ## Single steps (95_test_vectors.md; the vector is named in each comment) -/

/-- The common start of the vectors, the IPL ROM detached. -/
def base : State := { State.reset with iplDetached := true, pc := 0x0100, ssp := 0x8000, usp := 0x7000 }

/-- The same in user mode with FLAG = 0000h. -/
def user : State := { base with flag := Flag.ofWord 0 }

/-- User mode with the MMU on and one entry: page 30h, frame 40h, all permissions. -/
def mapped : State := { user with mmuEnabled := true, tlb := (Vector.replicate 8 0).set 0 0x308740 }

/-- One step over the words `w1 w2` placed at 0100h, observed by `f`. -/
def run {α : Type} (s : State) (w1 w2 : Word) (f : State → α) : Option α :=
  match step ((s.storeWord 0x0100 w1).storeWord 0x0102 w2) with
  | .next t => some (f t)
  | .fault _ => none
  | .refused _ => none

/-- Bit n is 1 when the jump to 0200h is taken with FLAG[3:0] = n. -/
def takenMask (jump : Word → Instr) : Nat :=
  (List.range 16).foldl (fun acc n =>
    match exec (jump 0x0200) { base with flag := Flag.ofWord (BitVec.ofNat 16 n) } with
    | .next t => if t.pc = 0x0200 then acc + 2 ^ n else acc
    | .fault _ => acc
    | .refused _ => acc) 0

-- V1
theorem test_step_no : run base 0x0000 0 (·.pc) = some 0x0102 := by decide
-- V4
theorem test_step_ld_index : run ({ base with g2 := 4 }.storeWord 0x0002 0x5566) 0x0912 0xFFFE (fun t => (t.g1, t.pc)) =
    some (0x5566, 0x0104) := by decide
-- V17
theorem test_step_ld_flag_user : run { user with g2 := 0xFFFF } 0x0CF2 0 (·.flag.toWord) = some 0x001F := by decide
-- V23
theorem test_step_st_fp : run { base with g1 := 0xABCD, fp := 0x2000 } 0x1311 0 (·.physWord 0x2002) = some 0xABCD := by
  decide
-- V25
theorem test_step_st_byte : run ({ base with g1 := 0xABCD, g2 := 0x3001 }.storeWord 0x3000 0x1122) 0x1712 0
    (·.physWord 0x3000) = some 0x11CD := by decide
-- A1
theorem test_step_add : run { base with g1 := 0x7FFF, g2 := 1 } 0x1C12 0 (fun t => (t.g1, t.flag.toWord)) =
    some (0x8000, 0x004A) := by decide
-- A47
theorem test_step_add_byte : run ({ base with g1 := 0xFF01, g2 := 0x3001 }.storeWord 0x3000 0x00FF) 0x1F12 0
    (fun t => (t.g1, t.flag.toWord)) = some (0x0000, 0x0045) := by decide
-- A9
theorem test_step_sub : run { base with g1 := 0x7FFF, g2 := 0xFFFF } 0x2412 0 (fun t => (t.g1, t.flag.toWord)) =
    some (0x8000, 0x004E) := by decide
-- A18
theorem test_step_cmp : run { base with g1 := 0x7FFF, g2 := 0x8000 } 0x2C12 0 (fun t => (t.g1, t.flag.toWord)) =
    some (0x7FFF, 0x004E) := by decide
-- A20
theorem test_step_and : run { base with g1 := 0xF0F0, g2 := 0x0FF0 } 0x3412 0 (fun t => (t.g1, t.flag.s, t.flag.z)) =
    some (0x00F0, false, false) := by decide
-- A22
theorem test_step_or : run { base with g1 := 0xF000, g2 := 0x000F } 0x3C12 0 (fun t => (t.g1, t.flag.s, t.flag.z)) =
    some (0xF00F, true, false) := by decide
-- A24
theorem test_step_xor : run { base with g1 := 0x1234 } 0x451F 0 (fun t => (t.g1, t.flag.s, t.flag.z)) =
    some (0xEDCB, true, false) := by decide
-- A25
theorem test_step_adds : run { base with g1 := 0x1000, g2 := 3 } 0x4C12 0 (·.g1) = some 0x1006 := by decide
-- A26
theorem test_step_adds_wraps : run { base with g1 := 0x1000, g2 := 0x8000 } 0x4C12 0 (·.g1) = some 0x1000 := by decide
-- A30
theorem test_step_mul : run { base with g1 := 0xFFFF, g2 := 0xFFFF } 0x5412 0 (fun t => (t.g1, t.flag.s)) =
    some (0x0001, false) := by decide
-- A33
theorem test_step_div : run { base with g1 := 7, g2 := 2 } 0x5C12 0 (·.g1) = some 3 := by decide
-- A37
theorem test_step_div_zero : run { base with g1 := 7, g2 := 0 } 0x5C12 0 (fun t => (t.g1, t.ssp, t.flag.toWord)) =
    some (7, 0x7FFC, 0x0040) := by decide
-- A40
theorem test_step_mod : run { base with g1 := 7, g2 := 2 } 0x6412 0 (·.g1) = some 1 := by decide
-- A41
theorem test_step_mod_small : run { base with g1 := 3, g2 := 5 } 0x6412 0 (·.g1) = some 3 := by decide
-- S2
theorem test_step_shla : run { base with g1 := 0x8001, g2 := 1 } 0x8412 0 (fun t => (t.g1, t.flag.c)) =
    some (0x0002, true) := by decide
-- S11
theorem test_step_shll : run { base with g1 := 0x0001, g2 := 15 } 0x8C12 0 (fun t => (t.g1, t.flag.s)) =
    some (0x8000, true) := by decide
-- S16
theorem test_step_shra : run { base with g1 := 0x8001, g2 := 15 } 0x9412 0 (fun t => (t.g1, t.flag.s)) =
    some (0xFFFF, true) := by decide
-- S20
theorem test_step_shrl : run { base with g1 := 0x8001, g2 := 1 } 0x9C12 0 (fun t => (t.g1, t.flag.c)) =
    some (0x4000, true) := by decide
-- Section 5, one column for each jump
theorem test_step_jz : takenMask .jzDrct = 0b1010101010101010 := by decide
theorem test_step_jc : takenMask .jcDrct = 0b1111000011110000 := by decide
theorem test_step_jm : takenMask .jmDrct = 0b1100110011001100 := by decide
theorem test_step_jo : takenMask .joDrct = 0b1111111100000000 := by decide
theorem test_step_jgt : takenMask .jgtDrct = 0b0100010000010001 := by decide
theorem test_step_jge : takenMask .jgeDrct = 0b1100110000110011 := by decide
theorem test_step_jle : takenMask .jleDrct = 0b1011101111101110 := by decide
theorem test_step_jlt : takenMask .jltDrct = 0b0011001111001100 := by decide
theorem test_step_jnz : takenMask .jnzDrct = 0b0101010101010101 := by decide
theorem test_step_jnc : takenMask .jncDrct = 0b0000111100001111 := by decide
theorem test_step_jnm : takenMask .jnmDrct = 0b0011001100110011 := by decide
theorem test_step_jno : takenMask .jnoDrct = 0b0000000011111111 := by decide
theorem test_step_jhi : takenMask .jhiDrct = 0b0000010100000101 := by decide
theorem test_step_jls : takenMask .jlsDrct = 0b1111101011111010 := by decide
theorem test_step_jmp : takenMask .jmpDrct = 0b1111111111111111 := by decide
-- J5
theorem test_step_jmp_index : run { base with g1 := 0xFFF8 } 0xA1F1 0x0010 (·.pc) = some 0x0008 := by decide
-- J16
theorem test_step_call : run base 0xA90D 0x0002 (fun t => (t.pc, t.ssp, t.physWord 0x7FFE)) =
    some (0x8002, 0x7FFE, 0x0104) := by decide
-- K7
theorem test_step_push : run { base with g1 := 0x1234, ssp := 0 } 0xC010 0 (fun t => (t.ssp, t.physWord 0xFFFE)) =
    some (0xFFFE, 0x1234) := by decide
-- K6
theorem test_step_push_user : run { user with g1 := 0x1234 } 0xC010 0 (fun t => (t.ssp, t.usp, t.physWord 0x6FFE)) =
    some (0x8000, 0x6FFE, 0x1234) := by decide
-- K9
theorem test_step_pop_flag : run ({ base with ssp := 0x7FFE }.storeWord 0x7FFE 0xFF8F) 0xC4F0 0
    (fun t => (t.flag.toWord, t.ssp, t.usp)) = some (0x008F, 0x8000, 0x7000) := by decide
-- K10
theorem test_step_pop_flag_user : run ({ user with flag := Flag.ofWord 0x20, usp := 0x6FFE }.storeWord 0x6FFE 0xFFFF)
    0xC4F0 0 (fun t => (t.flag.toWord, t.usp)) = some (0x003F, 0x7000) := by decide
-- K12
theorem test_step_ret : run ({ base with ssp := 0x7FFE }.storeWord 0x7FFE 0x0104) 0xD000 0 (fun t => (t.pc, t.ssp)) =
    some (0x0104, 0x8000) := by decide
-- K14
theorem test_step_reti : run (({ base with ssp := 0x7FFC }.storeWord 0x7FFC 0x0080).storeWord 0x7FFE 0x0104) 0xD4F0 0
    (fun t => (t.flag.toWord, t.pc, t.ssp)) = some (0x0080, 0x0104, 0x8000) := by decide
-- K16
theorem test_step_reti_user : run (({ user with usp := 0x6FFC }.storeWord 0x6FFC 0x00FF).storeWord 0x6FFE 0x0300)
    0xD4F0 0 (fun t => (t.flag.toWord, t.pc, t.usp)) = some (0x001F, 0x0300, 0x7000) := by decide
-- I1
theorem test_step_in : run base 0xB010 0x00FE (fun t => (t.pc, t.trace)) = some (0x0104, [.input 0x00FE]) := by decide
-- I3
theorem test_step_in_user : run user 0xB010 0x00FE (fun t => (t.ssp, t.flag.toWord, t.physWord 0x7FFE)) =
    some (0x7FFC, 0x0040, 0x0100) := by decide
-- I6
theorem test_step_out : run { base with g1 := 0x8001, g2 := 2 } 0xBE12 0
    (fun t => (t.pc, t.trace, t.dev.timer0.control)) = some (0x0102, [.output 0x0002 0x8001], 0x8001) := by decide
-- Y2 without its vector
theorem test_step_svc : run { base with flag := Flag.ofWord 0x45 } 0xF000 0
    (fun t => (t.flag.toWord, t.ssp, t.physWord 0x7FFE, t.physWord 0x7FFC)) = some (0x0045, 0x7FFC, 0x0102, 0x0045) := by
  decide
-- Y3
theorem test_step_halt : run base 0xFF00 0 (fun t => (t.pc, t.halted)) = some (0x0102, true) := by decide
-- Y4
theorem test_step_halt_user : run { user with flag := Flag.ofWord 0x20 } 0xFF00 0
    (fun t => (t.halted, t.flag.toWord, t.physWord 0x7FFE)) = some (false, 0x0060, 0x0100) := by decide
-- M1, at page 01h for the fetch
theorem test_step_translated_load :
    run ({ mapped with tlb := ((Vector.replicate 8 0).set 0 0x028740).set 1 0x018701, g2 := 0x0210 }.storeWord 0x4010
      0x1234) 0x0E12 0 (fun t => (t.g1, t.tlb[0], t.tlb[1])) = some (0x1234, 0x029740, 0x019701) := by decide
-- M4, the same
theorem test_step_translated_store_denied :
    run { mapped with tlb := ((Vector.replicate 8 0).set 0 0x028540).set 1 0x018701, g2 := 0x0210 } 0x1612 0
      (fun t => (t.violationAddress, t.violationCause, t.tlb[0])) = some (0x0210, 1, 0x028540) := by decide

/-! ## Witnesses: for each statement of Obligations.lean with hypotheses, states and operands that meet them, at the
boundaries of each clause -/

/-- `mapped` with two entries for page 30h. -/
def mappedTwice : State := { mapped with tlb := mapped.tlb.set 7 0x308741 }

/-- `mapped` with the permission bits R/W/X of `p`. -/
def mappedWith (p : BitVec 24) : State := { mapped with tlb := (Vector.replicate 8 0).set 7 (0x308040 ||| p <<< 8) }

/-- A word lies at 0100h. -/
def holding (s : State) (w1 w2 : Word) : State := (s.storeWord 0x0100 w1).storeWord 0x0102 w2

theorem witness_DecodeOfEncodedInstruction :
    (Instr.ldFpRlt .g1 (-16)).WellFormed ∧ (Instr.stFpRlt .flag 14).WellFormed ∧ (Instr.ldImm4 .g1 (-8)).WellFormed ∧
    (Instr.shrlImm4 .g1 7).WellFormed ∧ Instr.halt.WellFormed := by decide

theorem witness_EncodeOfDecodedWords :
    (∃ build, decodeFirst 0x0810 = .ok build ∧ hasSecondWord 0x0810 = true) ∧
    (∃ build, decodeFirst 0xFF00 = .ok build ∧ hasSecondWord 0xFF00 = false) := ⟨⟨_, rfl, rfl⟩, ⟨_, rfl, rfl⟩⟩

theorem witness_UndefinedEncodingsExactly :
    decodeFirst 0x0100 = .error .undefined ∧ decodeFirst 0xFE00 = .error .undefined ∧
    decodeFirst 0xA0D0 = .error .undefined ∧ decodeFirst 0xA0D1 = .error .undefined ∧
    decodeFirst 0x0010 = .error .nonCanonical := ⟨rfl, rfl, rfl, rfl, rfl⟩

theorem witness_StepRunsDecodedInstruction :
    (∃ s0 build, (holding base 0x0C12 0).halted = false ∧ interruptToTake (holding base 0x0C12 0) = none ∧
      memReadWord .execute (holding base 0x0C12 0).pc (holding base 0x0C12 0) = .done 0x0C12 s0 ∧
      decodeFirst 0x0C12 = .ok build ∧ hasSecondWord 0x0C12 = false) ∧
    (∃ s0 build s2, interruptToTake (holding base 0x0810 0x1000) = none ∧
      memReadWord .execute (holding base 0x0810 0x1000).pc (holding base 0x0810 0x1000) = .done 0x0810 s0 ∧
      decodeFirst 0x0810 = .ok build ∧ hasSecondWord 0x0810 = true ∧ privilegeFails (build 0) (otherAgents s0) = false ∧
      memReadWord .execute ((holding base 0x0810 0x1000).pc + 2) (otherAgents s0) = .done 0x1000 s2) ∧
    (∃ s0 build, interruptToTake (holding user 0xB010 0x00FE) = none ∧
      memReadWord .execute (holding user 0xB010 0x00FE).pc (holding user 0xB010 0x00FE) = .done 0xB010 s0 ∧
      decodeFirst 0xB010 = .ok build ∧ privilegeFails (build 0) (otherAgents s0) = true) ∧ base.dev.sdBuffers = [] :=
  ⟨⟨_, _, rfl, rfl, rfl, rfl, rfl⟩, ⟨_, _, _, rfl, rfl, rfl, rfl, rfl, rfl⟩, ⟨_, _, rfl, rfl, rfl, rfl⟩, rfl⟩

theorem witness_UndecodedWordTrapsOrIsRefused :
    (∃ s1, (holding base 0x0100 0).halted = false ∧ interruptToTake (holding base 0x0100 0) = none ∧
      memReadWord .execute (holding base 0x0100 0).pc (holding base 0x0100 0) = .done 0x0100 s1 ∧
      decodeFirst 0x0100 = .error .undefined) ∧
    (∃ s1, (holding base 0x0811 0).halted = false ∧ interruptToTake (holding base 0x0811 0) = none ∧
      memReadWord .execute (holding base 0x0811 0).pc (holding base 0x0811 0) = .done 0x0811 s1 ∧
      decodeFirst 0x0811 = .error .nonCanonical) := ⟨⟨_, rfl, rfl, rfl, rfl⟩, ⟨_, rfl, rfl, rfl, rfl⟩⟩

theorem witness_FetchAtOddPcTraps :
    (let s := { base with pc := 0xFFFF }
     s.halted = false ∧ interruptToTake s = none ∧ s.pc.getLsbD 0 = true) ∧
    (∃ s0, mapped.halted = false ∧ interruptToTake mapped = none ∧
      memReadWord .execute mapped.pc mapped = .raised (.tlbMiss 0x01) s0) ∧
    (let s := { mappedWith 6 with pc := 0x3000 }
     interruptToTake s = none ∧ ∃ s0, memReadWord .execute s.pc s = .raised (.memVio 0x3000) s0) ∧
    (let s := { mappedTwice with pc := 0x3000 }
     interruptToTake s = none ∧ memReadWord .execute s.pc s = .refused .tlbConflict) ∧
    (let s := { mapped.storeWord 0x40FE 0x0810 with pc := 0x30FE }
     ∃ s0 build s2, interruptToTake s = none ∧ memReadWord .execute s.pc s = .done 0x0810 s0 ∧
      decodeFirst 0x0810 = .ok build ∧ hasSecondWord 0x0810 = true ∧ privilegeFails (build 0) s0 = false ∧
      memReadWord .execute (s.pc + 2) (otherAgents s0) = .raised (.tlbMiss 0x31) s2) :=
  ⟨⟨rfl, rfl, rfl⟩, ⟨_, rfl, rfl, rfl⟩, ⟨rfl, _, rfl⟩, ⟨rfl, rfl⟩, _, _, _, rfl, rfl, rfl, rfl, rfl, rfl⟩

theorem witness_InterruptIsAcceptedAtTheBoundary :
    (let s := { base with flag := Flag.ofWord 0xC0, pending := { Pending.none with pio := true } }
     s.halted = false ∧ s.flag.e = true ∧ s.pending.has .pio = true) ∧
    (base.halted = false ∧ base.flag.e = false) ∧
    (let s := { base with flag := Flag.ofWord 0xC0 }
     s.halted = false ∧ s.flag.e = true ∧ ∀ src, s.pending.has src = false) :=
  ⟨⟨rfl, rfl, rfl⟩, ⟨rfl, rfl⟩, rfl, rfl, fun src => by cases src <;> rfl⟩

theorem witness_StoredWordIsBigEndian :
    ((0xFFFE : Word).getLsbD 0 = false ∧ State.reset.romShown 0xFFFE = false) ∧
    ((0xDFFE : Word).getLsbD 0 = false ∧ State.reset.romShown 0xDFFE = false) ∧
    ((0xE000 : Word).getLsbD 0 = false ∧ base.romShown 0xE000 = false) := by decide

theorem witness_ByteAccessIsZeroExtendedAndLocal :
    (∃ s1, Machine.translate 0xFFFF .read base = .done 0xFFFF s1) ∧
    (∃ s1, Machine.translate 0xFFFF .write base = .done 0xFFFF s1 ∧ s1.romShown 0xFFFF = false) ∧
    (∃ s1, Machine.translate 0x3001 .write mapped = .done 0x4001 s1 ∧ s1.romShown 0x4001 = false) :=
  ⟨⟨_, rfl⟩, ⟨_, rfl, rfl⟩, ⟨_, rfl, rfl⟩⟩

theorem witness_OddWordAccessRaisesBadAddr :
    (0x0001 : Word).getLsbD 0 = true ∧ (0xFFFF : Word).getLsbD 0 = true ∧
    { base with ssp := 0x0001 }.sp.getLsbD 0 = true ∧ { mapped with usp := 0xFFFF }.sp.getLsbD 0 = true := by decide

theorem witness_TranslationIsIdentityOutsideUserMmu :
    ¬(base.mmuEnabled = true ∧ base.flag.p = false) ∧ ¬(user.mmuEnabled = true ∧ user.flag.p = false) ∧
    (let s := { base with mmuEnabled := true }
     ¬(s.mmuEnabled = true ∧ s.flag.p = false)) := by decide

/-- The hypotheses of the clauses of `TranslationByTheTlb`: the TLB entry `k` is a hit for a page. -/
def hits (s : State) (addr : Word) (k : Fin 8) : Bool :=
  (tlbGet s.tlb k).getLsbD 15 && (tlbGet s.tlb k).extractLsb' 16 8 == hiByte addr

theorem witness_TranslationByTheTlb :
    mapped.mmuEnabled = true ∧ mapped.flag.p = false ∧ (∀ k, hits mapped 0x3100 k = false) ∧
    hits mappedTwice 0x30FF 0 = true ∧ hits mappedTwice 0x30FF 7 = true ∧
    (∀ p : Fin 8, hits (mappedWith (BitVec.ofNat 24 p.val)) 0x3000 7 = true ∧
      ∀ j : Fin 8, j ≠ 7 → hits (mappedWith (BitVec.ofNat 24 p.val)) 0x3000 j = false) ∧
    (tlbGet (mappedWith 3).tlb 7).getLsbD 10 = false ∧ (tlbGet (mappedWith 4).tlb 7).getLsbD 10 = true ∧
    (tlbGet (mappedWith 5).tlb 7).getLsbD 9 = false ∧ (tlbGet (mappedWith 2).tlb 7).getLsbD 9 = true ∧
    (tlbGet (mappedWith 6).tlb 7).getLsbD 8 = false ∧ (tlbGet (mappedWith 1).tlb 7).getLsbD 8 = true := by decide

theorem witness_IplRomCoversItsRange :
    (State.reset.iplDetached = false ∧ State.reset.translates = false ∧ 0xE000 ≤ (0xE000 : Word).toNat ∧
      (0xFFDE : Word).toNat < 0xFFE0 ∧ (0xFFDE : Word).getLsbD 0 = false) ∧
    base.iplDetached = true ∧ (0xDFFF : Word).toNat < 0xE000 ∧ 0xFFE0 ≤ (0xFFE0 : Word).toNat := by decide

theorem witness_OperandValueOfEachMode :
    (base.translates = false ∧ user.translates = false ∧ { base with mmuEnabled := true }.translates = false ∧
      (0x1001 : Word).getLsbD 0 = true ∧ (0x1000 : Word).getLsbD 0 = false) ∧
    (∃ s1, mapped.translates = true ∧ Machine.translate 0x30FE .read mapped = .done 0x40FE s1) ∧
    (∃ s1, Machine.translate 0x3000 .execute mapped = .done 0x4000 s1) ∧
    (∃ s1, Machine.translate 0x30FF .read mapped = .done 0x40FF s1) ∧
    (∃ s1, Machine.translate 0x3100 .read mapped = .raised (.tlbMiss 0x31) s1) ∧
    (∃ s1, Machine.translate 0x3000 .execute (mappedWith 6) = .raised (.memVio 0x3000) s1) ∧
    Machine.translate 0x3000 .read mappedTwice = .refused .tlbConflict :=
  ⟨by decide, ⟨_, rfl, rfl⟩, ⟨_, rfl⟩, ⟨_, rfl⟩, ⟨_, rfl⟩, ⟨_, rfl⟩, rfl⟩

theorem witness_ReadingAnOperandOnlyMarksTheTlb :
    (∃ v s1, readOperand (.drct 0x3000) mapped = .done v s1) ∧
    (∃ e s1, readOperand (.drct 0x3100) mapped = .raised e s1) ∧
    (∃ e s1, readOperand (.drct 0x3001) mapped = .raised e s1) :=
  ⟨⟨_, _, rfl⟩, ⟨_, _, rfl⟩, ⟨_, _, rfl⟩⟩

theorem witness_NoOnlyAdvancesThePc :
    0x01 ≤ (hiByte 0x0100).toNat ∧ (hiByte 0x07FF).toNat ≤ 0x07 := by decide

/-- One operand of each addressing mode, readable in `base`. -/
def operands : List Operand :=
  [.drct 0xFFFE, .index 0xFFFE .g2, .imm 0x8000, .fpRlt (-16), .reg .flag, .imm4 (-8), .indr .sp, .bIndr .g3]

/-- Every operand of a list can be read in a state. -/
def allReadable (s : State) (l : List Operand) : Bool :=
  l.all fun o =>
    match readOperand o s with
    | .done _ _ => true
    | .raised _ _ => false
    | .refused _ => false

theorem operands_readable : allReadable base operands = true := by decide

theorem witness_LoadWritesTheOperand :
    (∃ v s1, readOperand (.drct 0xFFFE) base = .done v s1) ∧
    (∃ v s1, readOperand (.indr .g1) { mapped with g1 := 0x3000 } = .done v s1) :=
  ⟨⟨_, _, rfl⟩, ⟨_, _, rfl⟩⟩

theorem witness_StoreWritesTheWord :
    ∃ s1, placeIsByte (.drct 0x30FE) = false ∧ (placeAddress (.drct 0x30FE) mapped).getLsbD 0 = false ∧
      Machine.translate (placeAddress (.drct 0x30FE) mapped) .write mapped = .done 0x40FE s1 ∧ s1.romShown 0x40FE = false :=
  ⟨_, rfl, rfl, rfl, rfl⟩

theorem witness_ByteStoreWritesOneByte :
    ∃ s1, Machine.translate ({ base with g2 := 0xFFFF }.readReg .g2) .write { base with g2 := 0xFFFF } = .done 0xFFFF s1 ∧
      s1.romShown 0xFFFF = false := ⟨_, rfl, rfl⟩

theorem witness_AddWritesSumAndFlags :
    ∃ b s1, Reg.g1 ≠ .flag ∧ readOperand (.fpRlt (-16)) base = .done b s1 := ⟨_, _, by decide, rfl⟩

theorem witness_SubWritesDifferenceAndFlags :
    ∃ b s1, Reg.sp ≠ .flag ∧ readOperand (.index 0xFFFE .g2) base = .done b s1 := ⟨_, _, by decide, rfl⟩

theorem witness_CmpSetsSubFlagsOnly : ∃ b s1, readOperand (.reg .flag) base = .done b s1 := ⟨_, _, rfl⟩

theorem witness_LogicAddsMulWriteTheirResult :
    ∃ b s1, Reg.g1 ≠ .flag ∧ readOperand (.imm 0x8000) base = .done b s1 ∧
      ((0xFFFF : Word) &&& b = 0x8000 ∧ (0xFFFF : Word) ||| b = 0xFFFF ∧ (0xFFFF : Word) ^^^ b = 0x7FFF ∧
        (0xFFFF : Word).toNat = (0xFFFF + 2 * b.toNat) % 65536 ∧ (0x8000 : Word).toNat = (0xFFFF * b.toNat) % 65536) :=
  ⟨_, _, by decide, rfl, by decide⟩

theorem witness_DivModWriteQuotientAndRemainder :
    (∃ s1, Reg.g1 ≠ .flag ∧ readOperand (.imm 0x7FFF) { base with g1 := 0x7FFF } = .done 0x7FFF s1 ∧
      (0x7FFF : Word) ≠ 0 ∧ ({ base with g1 := 0x7FFF }.readReg .g1).toNat ≤ 0x7FFF ∧ (0x7FFF : Word).toNat ≤ 0x7FFF) ∧
    (∃ s1, readOperand (.imm 0x8000) base = .done 0x8000 s1 ∧ (0x8000 : Word) ≠ 0 ∧ ¬(0x8000 : Word).toNat ≤ 0x7FFF) :=
  ⟨⟨_, by decide, rfl, by decide, by decide, by decide⟩, ⟨_, rfl, by decide, by decide⟩⟩

theorem witness_DivisionByZeroTraps :
    ∃ s1, Reg.g1 ≠ .flag ∧ readOperand (.reg .g2) base = .done 0 s1 := ⟨_, by decide, rfl⟩

theorem witness_FlagDestinationIsRefused : ArithOp.add ≠ .cmp := by decide

theorem witness_ShiftBySmallAmount :
    (∃ s1, Reg.g1 ≠ .flag ∧ readOperand (.imm 0) base = .done 0 s1 ∧ (0 : Word).toNat ≤ 15) ∧
    (∃ s1, readOperand (.imm4 1) base = .done 1 s1 ∧ (1 : Word).toNat ≤ 15) ∧
    (∃ s1, readOperand (.imm 15) base = .done 15 s1 ∧ (15 : Word).toNat ≤ 15) :=
  ⟨⟨_, by decide, rfl, by decide⟩, ⟨_, rfl, by decide⟩, ⟨_, rfl, by decide⟩⟩

theorem witness_ShiftByLargeAmountCompletes :
    (∃ s1, Reg.g1 ≠ .flag ∧ readOperand (.imm 16) base = .done 16 s1 ∧ 16 ≤ (16 : Word).toNat) ∧
    (∃ s1, readOperand (.imm4 (-1)) base = .done 0xFFFF s1 ∧ 16 ≤ (0xFFFF : Word).toNat) :=
  ⟨⟨_, by decide, rfl, by decide⟩, ⟨_, rfl, by decide⟩⟩

theorem witness_OperandFaultIsTakenPrecisely :
    (∃ s1, readOperand (.drct 0x0001) base = .raised (.badAddr 0x0001) s1 ∧ Reg.g1 ≠ .flag) ∧
    (∃ s1, readOperand (.drct 0x3100) mapped = .raised (.tlbMiss 0x31) s1) ∧
    (∃ s1, readOperand (.bIndr .g1) { mappedWith 3 with g1 := 0x3001 } = .raised (.memVio 0x3001) s1) ∧
    readOperand (.drct 0x3000) mappedTwice = .refused .tlbConflict ∧
    ((placeAddress (.drct 0x1001) base).getLsbD 0 = true ∧ placeIsByte (.drct 0x1001) = false) ∧
    (∃ s1, Machine.translate (placeAddress (.bIndr .g1) { mappedWith 5 with g1 := 0x30FF }) .write { mappedWith 5 with g1 := 0x30FF } =
      .raised (.memVio 0x30FF) s1) ∧
    Machine.translate (placeAddress (.drct 0x3000) mappedTwice) .write mappedTwice = .refused .tlbConflict ∧
    (let s := { State.reset with ssp := 0xE002 }
     (∃ s1, Machine.translate (placeAddress (.drct 0xE000) s) .write s = .done 0xE000 s1 ∧ s1.romShown 0xE000 = true) ∧
     (∃ s1, (s.sp - 2).getLsbD 0 = false ∧ Machine.translate (s.sp - 2) .write s = .done 0xE000 s1 ∧ s1.romShown 0xE000 = true)) ∧
    (let s := { base with ssp := 0x0001 }
     (s.sp - 2).getLsbD 0 = true ∧ s.sp.getLsbD 0 = true ∧ Reg.g1 ≠ .sp ∧ Reg.g1 ≠ .usp) ∧
    (∃ s1, Machine.translate (user.sp - 2) .write { user with mmuEnabled := true } = .raised (.tlbMiss 0x6F) s1) ∧
    (let s := { mapped with usp := 0x30FE }
     ∃ f s1 s2, memReadWord .read s.sp s = .done f s1 ∧
      Machine.translate (s.sp + 2) .read (otherAgents s1) = .raised (.tlbMiss 0x31) s2) :=
  ⟨⟨_, rfl, by decide⟩, ⟨_, rfl⟩, ⟨_, rfl⟩, rfl, ⟨rfl, rfl⟩, ⟨_, rfl⟩, rfl, ⟨⟨_, rfl, rfl⟩, _, rfl, rfl, rfl⟩,
    ⟨rfl, rfl, by decide, by decide⟩, ⟨_, rfl⟩, _, _, _, rfl, rfl⟩

theorem witness_ComparisonTable :
    ∃ b s1 t, Reg.g1 ≠ .flag ∧ readOperand (.imm 0x8000) base = .done b s1 ∧
      exec (Instr.ofForm (.arith .cmp .g1 (.imm 0x8000))) base = .next t := ⟨_, _, _, by decide, rfl, rfl⟩

theorem witness_CallPushesReturnAddress :
    ∃ s1, { base with ssp := 0 }.sp.getLsbD 0 = false ∧
      Machine.translate ({ base with ssp := 0 }.sp - 2) .write { base with ssp := 0 } = .done 0xFFFE s1 ∧
      s1.romShown 0xFFFE = false := ⟨_, rfl, rfl, rfl⟩

theorem witness_ReturnUndoesCall :
    ∃ t, base.translates = false ∧ base.sp.getLsbD 0 = false ∧ base.romShown (base.sp - 2) = false ∧
      exec (Instr.ofForm (.call (.index 2 .sp))) base = .next t := ⟨_, rfl, rfl, rfl, rfl⟩

theorem witness_PushStoresTheRegister :
    (∃ s1, Reg.usp ≠ .sp ∧ base.flag.p = true ∧ base.sp.getLsbD 0 = false ∧
      Machine.translate (base.sp - 2) .write base = .done 0x7FFE s1 ∧ s1.romShown 0x7FFE = false) ∧
    (∃ s1, Reg.flag ≠ .sp ∧ Reg.flag ≠ .usp ∧ { mapped with usp := 0x3100 }.sp.getLsbD 0 = false ∧
      Machine.translate ({ mapped with usp := 0x3100 }.sp - 2) .write { mapped with usp := 0x3100 } = .done 0x40FE s1 ∧
      s1.romShown 0x40FE = false) :=
  ⟨⟨_, by decide, rfl, rfl, rfl, rfl⟩, ⟨_, by decide, by decide, rfl, rfl, rfl⟩⟩

theorem witness_PopLoadsTheRegister :
    (∃ v s1, Reg.usp ≠ .sp ∧ base.flag.p = true ∧ memReadWord .read base.sp base = .done v s1) ∧
    (∃ v s1, Reg.flag ≠ .sp ∧ Reg.flag ≠ .usp ∧ memReadWord .read user.sp user = .done v s1) :=
  ⟨⟨_, _, by decide, rfl, rfl⟩, ⟨_, _, by decide, by decide, rfl⟩⟩

theorem witness_StackPointerInUseIsRefused : user.flag.p = false ∧ base.flag.p = true := by decide

theorem witness_PushThenPopCopies :
    ∃ t, base.translates = false ∧ base.sp.getLsbD 0 = false ∧ base.romShown (base.sp - 2) = false ∧
      Reg.usp ≠ .sp ∧ Reg.usp ≠ .flag ∧ base.flag.p = true ∧ exec (.push .flag) base = .next t ∧ Reg.flag ≠ .sp :=
  ⟨_, rfl, rfl, rfl, by decide, by decide, rfl, rfl, by decide⟩

theorem witness_RetPopsThePc : ∃ v s1, memReadWord .read base.sp base = .done v s1 := ⟨_, _, rfl⟩

theorem witness_RetiRestoresFlagAndPc :
    (∃ f s1 v s2, memReadWord .read base.sp base = .done f s1 ∧
      memReadWord .read (base.sp + 2) (otherAgents s1) = .done v s2) ∧
    (∃ f s1 v s2, memReadWord .read { mapped with usp := 0x30FC }.sp { mapped with usp := 0x30FC } = .done f s1 ∧
      memReadWord .read ({ mapped with usp := 0x30FC }.sp + 2) (otherAgents s1) = .done v s2) :=
  ⟨⟨_, _, _, _, rfl, rfl⟩, ⟨_, _, _, _, rfl, rfl⟩⟩

theorem witness_InReadsThePort :
    (base.flag.p = true ∧ ioAddressOk (portAddress (.drct 0x00FE) base) = true) ∧
    (let s := { user with flag := Flag.ofWord 0x20 }
     s.flag.i = true ∧ ioAddressOk (portAddress (.indr .g2) s) = true) := by decide

theorem witness_PortValues :
    TlbReservedClear mapped ∧
    (0x82 : Word).toNat = 0x82 + 4 * (0 : Fin 8).val ∧ (0x9C : Word).toNat = 0x80 + 4 * (7 : Fin 8).val ∧
    (let s := recordDetails (.badAddr 0x1001) (recordDetails (.tlbMiss 0x31) base)
     s.violationAddressFresh = true ∧ s.violationCauseFresh = true ∧ s.faultPageFresh = true) ∧
    (0x08 ≤ (0x0E : Word).toNat ∧ (0x0E : Word).toNat ≤ 0x0E ∧ 0x18 ≤ (0x18 : Word).toNat ∧ (0x2E : Word).toNat ≤ 0x2E ∧
      0x30 ≤ (0x30 : Word).toNat ∧ (0x38 : Word).toNat ≤ 0x38) ∧
    ∀ (s : State) (a : Word), ∃ v s1, portRead a s = .done v s1 :=
  ⟨by unfold TlbReservedClear; decide, rfl, rfl, ⟨rfl, rfl, rfl⟩, by decide,
    fun s a => by obtain ⟨v, s1, h, _⟩ := portRead_done a s; exact ⟨v, s1, h⟩⟩

theorem witness_OutWritesThePort :
    (let s := { base with g1 := 1 }
     s.flag.p = true ∧ ioAddressOk (portAddress (.drct 0x00A0) s) = true ∧ (s.readReg .g1).getLsbD 0 = true) ∧
    ([0x00, 0x02, 0x04, 0x06, 0x08, 0x0A, 0x0C, 0x0E, 0x10, 0x12, 0x14, 0x16, 0x18, 0x1E, 0x2C, 0x2E, 0x30, 0x32, 0x34, 0x36,
      0x38, 0x7E, 0x80, 0x9E, 0xA2, 0xA8, 0xF6, 0xF8, 0xFA, 0xFE].all fun a => ioAddressOk (portAddress (.drct a) base)) = true :=
  ⟨⟨rfl, rfl, rfl⟩, rfl⟩

theorem witness_OutToTlbPortWritesHalfAnEntry :
    (0x80 : Word).toNat = 0x80 + 4 * (0 : Fin 8).val ∧ (0x9C : Word).toNat = 0x80 + 4 * (7 : Fin 8).val ∧
    (0x82 : Word).toNat = 0x82 + 4 * (0 : Fin 8).val ∧ (0x9E : Word).toNat = 0x82 + 4 * (7 : Fin 8).val := by decide

theorem witness_IllegalPortAccessIsRefused :
    base.flag.p = true ∧ 0xFF < (portAddress (.drct 0x0100) base).toNat ∧
    (portAddress (.drct 0x00FF) base).toNat ≤ 0xFF ∧ (portAddress (.drct 0x00FF) base).getLsbD 0 = true ∧
    portAddress (.drct 0x00A0) base = 0xA0 ∧ (base.readReg .g1).getLsbD 0 = false ∧
    portAddress (.drct 0x00A4) base = 0xA4 ∧ portAddress (.drct 0x00A6) base = 0xA6 := by decide

theorem witness_PrivilegeCheckGuardsInOutHalt :
    privilegeFails .halt user = true ∧ privilegeFails (.inDrct .g1 0) user = true ∧
    privilegeFails (.outIndr .g1 .g2) user = true ∧
    privilegeFails (.inDrct .g1 0) { user with flag := Flag.ofWord 0x20 } = false := by decide

theorem witness_HaltStopsTheCpu : base.flag.p = true ∧ { base with halted := true }.halted = true := by decide

/-- Without a running transfer any frame is outside the buffers. -/
theorem frame_free_of_idle {s : State} (h : s.dev.sdBuffers = []) : TrapFrameFree s := fun _ _ => by
  rw [agentCells_of_idle h]; exact List.not_mem_nil

theorem witness_SvcEntersTheHandler :
    (TrapFrameFits base ∧ TrapFrameFits user ∧ TrapFrameFits { base with ssp := 2 }) ∧ TrapFrameFree base :=
  ⟨by unfold TrapFrameFits; decide, frame_free_of_idle rfl⟩

theorem witness_TrapEntryBuildsTheFrame :
    (TrapFrameFits user ∧ TrapFrameFits { State.reset with ssp := 0xE000 }) ∧ TrapFrameFree user :=
  ⟨by unfold TrapFrameFits; decide, frame_free_of_idle rfl⟩

theorem witness_TrapEntryOutcomes :
    { base with ssp := 0x0001 }.ssp.getLsbD 0 = true ∧
    (let s := { State.reset with ssp := 0xE002 }
     s.ssp.getLsbD 0 = false ∧ s.romShown (s.ssp - 2) = true) ∧
    (let s := { State.reset with ssp := 0xFFE4 }
     s.ssp.getLsbD 0 = false ∧ s.romShown (s.ssp - 2) = false ∧ s.romShown (s.ssp - 4) = false) := by decide

theorem witness_ReturnFromTrapRestores :
    TrapFrameFree user ∧ ∃ t, trapEntry .zeroDivide 0x0200 user = .next t :=
  ⟨frame_free_of_idle rfl, _, rfl⟩

theorem witness_UserModeIsConfined :
    (∃ t, user.flag.p = false ∧ exec (.pop .flag) user = .next t) ∧ (∃ t, exec .svc user = .next t) := ⟨⟨_, rfl, rfl⟩, ⟨_, rfl⟩⟩

theorem witness_StepKeepsInvariant : Inv State.reset ∧ ∃ t, step (State.reset.withFetchWord 16 0) = .next t := by
  refine ⟨⟨?_, ?_, ?_, ?_, ?_⟩, ⟨_, rfl⟩⟩
  · unfold MemCanonical; decide
  · unfold TlbReservedClear; decide
  · unfold CauseIsOneOfTwo; decide
  · unfold TracePortsLegal; decide
  · intro src; cases src <;> decide

theorem witness_OnlyEnabledSourcesRequest : ∃ t, step (State.reset.withFetchWord 16 0) = .next t := ⟨_, rfl⟩

end Sys2Proof.Tests
end

section
/-! PROOFS of the statements of 41_no_ld_st.md: NO. -/

namespace Sys2Proof.Machine

/-! ## Decoding -/

theorem decodeFirst_eq_error {w : Word} {e : DecodeError} (h : decodeForm w = .error e) : decodeFirst w = .error e := by
  rw [decodeFirst, h]; rfl

/-- Bytes whose first word is a whole instruction: nothing more is read, whatever follows (R84). -/
theorem decode_of_one_word {h l : Byte} {build : Word → Instr} (hbuild : decodeFirst (wordOfBytes h l) = .ok build)
    (hsecond : hasSecondWord (wordOfBytes h l) = false) (rest : List Byte) :
    decode (h :: l :: rest) = .ok (build 0, rest) := by
  simp [decode, hbuild, hsecond]

theorem decodeForm_undefined_of_op5_zero {w : Word} (hop5 : fieldOp5 w = 0) (hmode : fieldMode w ≠ 0) :
    decodeForm w = .error .undefined := by
  simp only [decodeForm, hop5]
  exact if_neg hmode

/-- OP 01h to 07h has the five-bit field of NO and another mode than its 0. -/
theorem fields_of_hiByte_blank {w : Word} (hlow : 1 ≤ (hiByte w).toNat) (hhigh : (hiByte w).toNat ≤ 7) :
    fieldOp5 w = 0 ∧ fieldMode w ≠ 0 := by
  have hsplit := hiByte_toNat w
  have hmode := (fieldMode w).isLt
  constructor
  · bv_omega
  · bv_omega

/-! ## NO (R130) -/

/-- Settles O19: the first word decides the decoding of 0000h, the two fields of OP that of 01h to 07h, and NO's meaning is
`execNo` in every state. -/
theorem noOnlyAdvancesThePc : Obligations.NoOnlyAdvancesThePc := by
  refine ⟨fun rest => ?word, fun w hlow hhigh => ?blank, fun s => ?meaning⟩
  case word =>
    have hfirst : decodeFirst (wordOfBytes 0x00 0x00) = .ok fun _ => .no := rfl
    exact decode_of_one_word hfirst (by decide) rest
  case blank =>
    obtain ⟨hop5, hmode⟩ := fields_of_hiByte_blank hlow hhigh
    exact decodeFirst_eq_error (decodeForm_undefined_of_op5_zero hop5 hmode)
  case meaning => rw [exec_no, execNo]

end Sys2Proof.Machine
end

