-- ==== Sys2Proof/Proofs/JumpCall.lean ====
section
/-! PROOFS of the statements of 44_jump_call.md: the comparison table of R173. -/

namespace Sys2Proof.Machine

/-! ## What Z, C and S xor V say of two words (R141, R143) -/

theorem subOverflow_eq_ssubOverflow (a b : Word) : subOverflow a b = BitVec.ssubOverflow a b := by
  rw [BitVec.ssubOverflow_eq]
  simp only [subOverflow, BitVec.msb_eq_getLsbD_last]
  cases a.getLsbD 15 <;> cases b.getLsbD 15 <;> simp

/-- S xor V after a subtraction is the signed relation. Without overflow the difference of the two values is the result's
value, whose sign is S; with overflow the signs of the operands differ and S is not that of `a`. -/
theorem sign_xor_subOverflow (a b : Word) :
    ((a - b).getLsbD 15 ^^ subOverflow a b) = decide (a.toInt < b.toInt) := by
  have hsign : (a - b).getLsbD 15 = (a - b).msb := (BitVec.msb_eq_getLsbD_last _).symm
  cases hv : subOverflow a b with
  | false =>
    have hexact : (a - b).toInt = a.toInt - b.toInt :=
      BitVec.toInt_sub_of_not_ssubOverflow (by simp [← subOverflow_eq_ssubOverflow, hv])
    rw [hsign, BitVec.msb_eq_toInt, hexact, Bool.xor_false, decide_eq_decide]
    omega
  | true =>
    have hsigns : a.msb = !b.msb ∧ (a - b).msb = !a.msb := by
      simpa [subOverflow, BitVec.msb_eq_getLsbD_last, Bool.eq_not] using hv
    obtain ⟨hab, hra⟩ := hsigns
    rw [hsign, hra, Bool.xor_true, Bool.not_not]
    rw [BitVec.msb_eq_toInt, BitVec.msb_eq_toInt, ← decide_not, decide_eq_decide] at hab
    rw [BitVec.msb_eq_toInt, decide_eq_decide]
    omega

/-- FLAG after CMP or SUB: the committed flags are those of the difference. SUB with Rd = FLAG has no next state. -/
theorem exec_compare_flag {op : ArithOp} {rd : Reg} {o : Operand} {s s1 t : State} {b : Word}
    (hop : op = .cmp ∨ op = .sub) (ho : readOperand o s = .done b s1)
    (ht : exec (Instr.ofForm (.arith op rd o)) s = .next t) :
    t.flag = s1.flag.after (s.readReg rd - b) (subBorrow (s.readReg rd) b) (subOverflow (s.readReg rd) b) := by
  rcases hop with rfl | rfl <;> simp only [exec_arith] at ht
  case inl =>
    rw [execCmp_done ho] at ht
    cases ht
    exact commitFlags_flag _ _ _
  case inr =>
    by_cases hrd : rd = .flag
    · simp [execBinary, hrd] at ht
    · rw [execBinary_done hrd ho] at ht
      cases ht
      exact commitResult_flag hrd _ _ _

/-! ## The table (R173) -/

/-- The jumps of the table read nothing but Z, C and S xor V (R172), so it is enough that these three say `a = b` and the
unsigned and signed `a < b`. -/
theorem condHolds_of_compared {f : Flag} {a b : Word} (hz : f.z = decide (a = b))
    (hc : f.c = decide (a.toNat < b.toNat)) (hlt : (f.s ^^ f.v) = decide (a.toInt < b.toInt)) :
    (condHolds .gt f = true ↔ b.toInt < a.toInt) ∧ (condHolds .ge f = true ↔ b.toInt ≤ a.toInt) ∧
    (condHolds .z f = true ↔ a = b) ∧ (condHolds .nz f = true ↔ a ≠ b) ∧
    (condHolds .le f = true ↔ a.toInt ≤ b.toInt) ∧ (condHolds .lt f = true ↔ a.toInt < b.toInt) ∧
    (condHolds .hi f = true ↔ b.toNat < a.toNat) ∧ (condHolds .nc f = true ↔ b.toNat ≤ a.toNat) ∧
    (condHolds .ls f = true ↔ a.toNat ≤ b.toNat) ∧ (condHolds .c f = true ↔ a.toNat < b.toNat) := by
  have hint : a = b ↔ a.toInt = b.toInt := BitVec.toInt_inj.symm
  have hnat : a = b ↔ a.toNat = b.toNat := BitVec.toNat_inj.symm
  simp only [condHolds, hz, hc, hlt, Bool.not_eq_true', Bool.or_eq_true, Bool.or_eq_false_iff, decide_eq_true_eq,
    decide_eq_false_iff_not, ne_eq, true_and, and_true]
  refine ⟨?gt, ?ge, ?le, ?hi, ?nc, ?ls⟩
  case gt => rw [hint]; omega
  case ge => omega
  case le => rw [hint]; omega
  case hi => rw [hnat]; omega
  case nc => omega
  case ls => rw [hnat]; omega

/-- Settles O34: CMP and SUB leave Z, C and S xor V as the relations of `a` and `b`, and each jump reads those. -/
theorem comparisonTable : Obligations.ComparisonTable := by
  intro op rd o s s1 t b hop ho ht
  have hflag := exec_compare_flag hop ho ht
  refine condHolds_of_compared ?zero ?borrow ?less
  case zero => rw [hflag, decide_eq_decide.mpr sub_eq_zero.symm]; rfl
  case borrow => rw [hflag]; rfl
  case less => rw [hflag]; exact sign_xor_subOverflow _ _

end Sys2Proof.Machine
end

section
/-! PROOFS of the statements of 60_exceptions.md: the rows of the vector table. -/

namespace Sys2Proof.Machine

/-! ## The rows of the vector table (R232) -/

/-- The slots in the order of R232's table, which is the inverse of `slotRow`. -/
def slotsInRowOrder : List VectorSlot :=
  [.interrupt .timer0, .interrupt .timer1, .interrupt .rn4020Rx, .interrupt .rn4020Tx, .interrupt .ft232rlRx,
    .interrupt .ft232rlTx, .interrupt .tecRx, .interrupt .tecTx, .interrupt .microSd, .interrupt .pio, .tlbMiss,
    .memoryViolation, .zeroDivide, .privilegeViolation, .undefinedInstruction, .supervisorCall]

theorem slotsInRowOrder_slotRow (slot : VectorSlot) : slotsInRowOrder[(slotRow slot).toNat]? = some slot := by
  cases slot with
  | interrupt src => cases src <;> rfl
  | _ => rfl

theorem slotRow_injective : Function.Injective slotRow := by
  intro x y h
  have hsome : some x = some y := by rw [← slotsInRowOrder_slotRow x, h, slotsInRowOrder_slotRow y]
  exact Option.some.inj hsome

/-- The last row is FFE0h + 2 * 15 = FFFEh, so the address of R59 never wraps around. -/
theorem vectorAddress_toNat (slot : VectorSlot) :
    (vectorAddress slot).toNat = 0xFFE0 + 2 * (slotRow (Config.vectorPerm slot)).toNat := by
  unfold vectorAddress
  bv_omega

theorem vectorAddress_injective : Function.Injective vectorAddress := by
  intro x y h
  have hrow : (slotRow (Config.vectorPerm x)).toNat = (slotRow (Config.vectorPerm y)).toNat := by
    have haddr := congrArg BitVec.toNat h
    rw [vectorAddress_toNat, vectorAddress_toNat] at haddr
    omega
  exact Config.vectorPerm.injective (slotRow_injective (BitVec.eq_of_toNat_eq hrow))

/-- Settles O53: the address is FFE0h plus twice one of sixteen rows, and both the permutation of the slots and their rows
are injective. -/
theorem vectorRowsAreEvenAndDistinct : Obligations.VectorRowsAreEvenAndDistinct := by
  refine ⟨?range, fun _ _ h => vectorAddress_injective h, fun _ _ => rfl⟩
  case range =>
    intro slot
    have hrow := (slotRow (Config.vectorPerm slot)).isLt
    rw [vectorAddress_toNat]
    omega

end Sys2Proof.Machine
end

section
/-! PROOFS of the statements of 30_encoding.md: the decoder and the encoder undo each other, and which words are undefined. -/

namespace Sys2Proof

/-! ## What a decoder answers -/

theorem except_map_eq_ok {ε α β : Type} {x : Except ε α} {f : α → β} {b : β} :
    x.map f = .ok b ↔ ∃ a, x = .ok a ∧ f a = b := by
  cases x <;> simp [Except.map]

theorem except_map_eq_error {ε α β : Type} {x : Except ε α} {f : α → β} {e : ε} : x.map f = .error e ↔ x = .error e := by
  cases x <;> simp [Except.map]

theorem decodeFirst_eq_ok {w : Word} {build : Word → Instr} :
    decodeFirst w = .ok build ↔ ∃ f, decodeForm w = .ok f ∧ (fun w2 => Instr.ofForm (f w2)) = build := except_map_eq_ok

theorem decodeFirst_eq_error_iff {w : Word} {e : DecodeError} : decodeFirst w = .error e ↔ decodeForm w = .error e :=
  except_map_eq_error

/-! ## The rows of each group of mnemonics (R87) -/

section
variable {w : Word}

theorem decodeForm_ld (h : fieldOp5 w = 1) : decodeForm w =
    (decodeOperand (fieldMode w) (fieldLast w)).map fun o w2 => .ld (Reg.ofBits (fieldRd w)) (o w2) := by
  simp only [decodeForm, h]; rfl

theorem decodeForm_st (h : fieldOp5 w = 2) : decodeForm w =
    (decodePlace (fieldMode w) (fieldLast w)).map fun p w2 => .st (Reg.ofBits (fieldRd w)) (p w2) := by
  simp only [decodeForm, h]; rfl

theorem decodeForm_arith {op : ArithOp} (h : fieldOp5 w = op.op5) : decodeForm w =
    (decodeOperand (fieldMode w) (fieldLast w)).map fun o w2 => .arith op (Reg.ofBits (fieldRd w)) (o w2) := by
  simp only [decodeForm, h]; cases op <;> rfl

theorem decodeForm_shift {op : ShiftOp} (h : fieldOp5 w = op.op5) : decodeForm w =
    (decodeOperand (fieldMode w) (fieldLast w)).map fun o w2 => .shift op (Reg.ofBits (fieldRd w)) (o w2) := by
  simp only [decodeForm, h]; cases op <;> rfl

theorem decodeForm_jump {cond : Cond} (h : fieldOp5 w = 20) (hc : Cond.ofBits (fieldRd w) = some cond) : decodeForm w =
    (decodeTarget (fieldMode w) (fieldLast w)).map fun t w2 => .jump cond (t w2) := by
  simp only [decodeForm, h, hc]; rfl

theorem decodeForm_call (h : fieldOp5 w = 21) (hrd : fieldRd w = 0) : decodeForm w =
    (decodeTarget (fieldMode w) (fieldLast w)).map fun t w2 => .call (t w2) := by
  simp only [decodeForm, h, hrd]
  cases decodeTarget (fieldMode w) (fieldLast w) <;> rfl

theorem decodeForm_input (h : fieldOp5 w = 22) : decodeForm w =
    (decodePort (fieldMode w) (fieldLast w)).map fun p w2 => .input (Reg.ofBits (fieldRd w)) (p w2) := by
  simp only [decodeForm, h]; rfl

theorem decodeForm_output (h : fieldOp5 w = 23) : decodeForm w =
    (decodePort (fieldMode w) (fieldLast w)).map fun p w2 => .output (Reg.ofBits (fieldRd w)) (p w2) := by
  simp only [decodeForm, h]; rfl

end

/-- The second word is there exactly in modes 0 to 2 of the mnemonics with an operand (R84). -/
theorem hasSecondWord_eq (w : Word) : hasSecondWord w =
    decide ((fieldMode w).toNat ≤ 2 ∧ (1 ≤ (fieldOp5 w).toNat ∧ (fieldOp5 w).toNat ≤ 12 ∨
      16 ≤ (fieldOp5 w).toNat ∧ (fieldOp5 w).toNat ≤ 23)) := rfl

/-! ## Decoding an encoded form (R80 to R89) -/

/-- The words are one whole instruction, and decoding them gives the form. -/
def WordsDecodeTo (ws : List Word) (f : Form) : Prop :=
  (∃ w build, ws = [w] ∧ hasSecondWord w = false ∧ decodeForm w = .ok build ∧ build 0 = f) ∨
  (∃ w w2 build, ws = [w, w2] ∧ hasSecondWord w = true ∧ decodeForm w = .ok build ∧ build w2 = f)

/-- The encoded operand `x` has a second word exactly in modes 0 to 2, and `build` of it is `a`. -/
def OperandBuilds {α : Type} (x : BitVec 3 × BitVec 4 × List Word) (build : Word → α) (a : α) : Prop :=
  (x.1.toNat ≤ 2 ∧ ∃ w, x.2.2 = [w] ∧ build w = a) ∨ (2 < x.1.toNat ∧ x.2.2 = [] ∧ build 0 = a)

theorem operandBuilds_operand {o : Operand} (h : o.ok = true) :
    ∃ g, decodeOperand o.encode.1 o.encode.2.1 = .ok g ∧ OperandBuilds o.encode g o := by
  obtain ⟨g, hg, hone, hnone⟩ := decodeOperand_encode h
  refine ⟨g, hg, ?_⟩
  rcases o.encode_words with ⟨hmode, w, hw⟩ | ⟨hmode, hw⟩
  · exact .inl ⟨hmode, w, hw, hone w hw⟩
  · exact .inr ⟨hmode, hw, hnone hw 0⟩

/-- How many words a place adds to the first, a target and a port likewise. -/
theorem Place.encode_words (p : Place) : (p.encode.1.toNat ≤ 2 ∧ ∃ w, p.encode.2.2 = [w]) ∨
    (2 < p.encode.1.toNat ∧ p.encode.2.2 = []) := by
  cases p <;> simp [Place.encode]

theorem Target.encode_words (t : Target) : t.encode.1.toNat ≤ 2 ∧ ∃ w, t.encode.2.2 = [w] := by
  cases t <;> simp [Target.encode]

theorem Port.encode_words (p : Port) : (p.encode.1.toNat ≤ 2 ∧ ∃ w, p.encode.2.2 = [w]) ∨
    (2 < p.encode.1.toNat ∧ p.encode.2.2 = []) := by
  cases p <;> simp [Port.encode]

theorem operandBuilds_place {p : Place} (h : p.ok = true) :
    ∃ g, decodePlace p.encode.1 p.encode.2.1 = .ok g ∧ OperandBuilds p.encode g p := by
  obtain ⟨g, hg, hone, hnone⟩ := decodePlace_encode h
  refine ⟨g, hg, ?_⟩
  rcases p.encode_words with ⟨hmode, w, hw⟩ | ⟨hmode, hw⟩
  · exact .inl ⟨hmode, w, hw, hone w hw⟩
  · exact .inr ⟨hmode, hw, hnone hw 0⟩

theorem operandBuilds_target (t : Target) :
    ∃ g, decodeTarget t.encode.1 t.encode.2.1 = .ok g ∧ OperandBuilds t.encode g t := by
  obtain ⟨g, hg, hone⟩ := decodeTarget_encode t
  obtain ⟨hmode, w, hw⟩ := t.encode_words
  exact ⟨g, hg, .inl ⟨hmode, w, hw, hone w hw⟩⟩

theorem operandBuilds_port (p : Port) :
    ∃ g, decodePort p.encode.1 p.encode.2.1 = .ok g ∧ OperandBuilds p.encode g p := by
  obtain ⟨g, hg, hone, hnone⟩ := decodePort_encode p
  refine ⟨g, hg, ?_⟩
  rcases p.encode_words with ⟨hmode, w, hw⟩ | ⟨hmode, hw⟩
  · exact .inl ⟨hmode, w, hw, hone w hw⟩
  · exact .inr ⟨hmode, hw, hnone hw 0⟩

/-- A row with an operand: the operand's second word is the instruction's. -/
theorem wordsDecodeTo_encodeWith {α : Type} {op5 : BitVec 5} {rd : BitVec 4} {x : BitVec 3 × BitVec 4 × List Word}
    {d : Except DecodeError (Word → α)} {k : α → Form} {a : α}
    (hop : 1 ≤ op5.toNat ∧ op5.toNat ≤ 12 ∨ 16 ≤ op5.toNat ∧ op5.toNat ≤ 23)
    (hrow : decodeForm (firstWord op5 x.1 rd x.2.1) = d.map fun g w2 => k (g w2))
    (hx : ∃ g, d = .ok g ∧ OperandBuilds x g a) : WordsDecodeTo (encodeWith op5 rd x) (k a) := by
  obtain ⟨g, rfl, hg⟩ := hx
  rcases hg with ⟨hmode, w2, hw, rfl⟩ | ⟨hmode, hw, rfl⟩
  · exact .inr ⟨_, w2, _, by rw [encodeWith, hw], by simp [hasSecondWord_eq, hop, hmode], hrow, rfl⟩
  · exact .inl ⟨_, _, by rw [encodeWith, hw], by simp [hasSecondWord_eq, hmode], hrow, rfl⟩

/-- An instruction of one word. -/
theorem wordsDecodeTo_single {w : Word} {f : Form} (hone : hasSecondWord w = false)
    (hdec : decodeForm w = .ok fun _ => f) : WordsDecodeTo [w] f := .inl ⟨w, _, rfl, hone, hdec, rfl⟩

theorem hasSecondWord_stack (op5 : BitVec 5) (mode : BitVec 3) (rd last : BitVec 4) (h : 24 ≤ op5.toNat) :
    hasSecondWord (firstWord op5 mode rd last) = false := by
  simp only [hasSecondWord_eq, fieldOp5_firstWord, decide_eq_false_iff_not]; omega

/-- Encoding then decoding, form by form. -/
theorem wordsDecodeTo_encode {f : Form} (h : f.ok = true) : WordsDecodeTo f.encode f := by
  cases f with
  | no => exact wordsDecodeTo_single rfl rfl
  | ld rd o =>
    exact wordsDecodeTo_encodeWith (k := .ld rd) (.inl (by decide)) (by rw [decodeForm_ld (by simp)]; simp)
      (operandBuilds_operand h)
  | st rd p =>
    exact wordsDecodeTo_encodeWith (k := .st rd) (.inl (by decide)) (by rw [decodeForm_st (by simp)]; simp)
      (operandBuilds_place h)
  | arith op rd o =>
    exact wordsDecodeTo_encodeWith (k := .arith op rd) (.inl (by cases op <;> decide))
      (by rw [decodeForm_arith (op := op) (by simp)]; simp) (operandBuilds_operand h)
  | shift op rd o =>
    exact wordsDecodeTo_encodeWith (k := .shift op rd) (.inr (by cases op <;> decide))
      (by rw [decodeForm_shift (op := op) (by simp)]; simp) (operandBuilds_operand h)
  | jump cond t =>
    exact wordsDecodeTo_encodeWith (k := .jump cond) (.inr (by decide))
      (by rw [decodeForm_jump (cond := cond) (by simp) (by simp)]; simp) (operandBuilds_target t)
  | call t =>
    exact wordsDecodeTo_encodeWith (k := .call) (.inr (by decide)) (by rw [decodeForm_call (by simp) (by simp)]; simp)
      (operandBuilds_target t)
  | input rd p =>
    exact wordsDecodeTo_encodeWith (k := .input rd) (.inr (by decide)) (by rw [decodeForm_input (by simp)]; simp)
      (operandBuilds_port p)
  | output rd p =>
    exact wordsDecodeTo_encodeWith (k := .output rd) (.inr (by decide)) (by rw [decodeForm_output (by simp)]; simp)
      (operandBuilds_port p)
  | push rd => exact wordsDecodeTo_single (hasSecondWord_stack _ _ _ _ (by decide)) (by simp [decodeForm])
  | pop rd => exact wordsDecodeTo_single (hasSecondWord_stack _ _ _ _ (by decide)) (by simp [decodeForm])
  | ret => exact wordsDecodeTo_single rfl rfl
  | reti => exact wordsDecodeTo_single rfl rfl
  | svc => exact wordsDecodeTo_single rfl rfl
  | halt => exact wordsDecodeTo_single rfl rfl

/-- Decoding the bytes of such words, whatever follows. -/
theorem decode_bytesOfWords {ws : List Word} {f : Form} (h : WordsDecodeTo ws f) (rest : List Byte) :
    decode (bytesOfWords ws ++ rest) = .ok (Instr.ofForm f, rest) := by
  rcases h with ⟨w, build, rfl, hone, hdec, rfl⟩ | ⟨w, w2, build, rfl, htwo, hdec, rfl⟩
  · have hfirst := decodeFirst_eq_ok.mpr ⟨build, hdec, rfl⟩
    simp [bytesOfWords, decode, hfirst, hone]
  · have hfirst := decodeFirst_eq_ok.mpr ⟨build, hdec, rfl⟩
    simp [bytesOfWords, decode, hfirst, htwo]

/-- Settles O1: the fields of each form decode to it, and the first word says whether there is a second. -/
theorem decodeOfEncodedInstruction : Obligations.DecodeOfEncodedInstruction := by
  intro i rest hwf
  have hok : i.form.ok = true := by rw [← wf_eq_ok]; exact hwf
  have hdec := decode_bytesOfWords (wordsDecodeTo_encode hok) rest
  rwa [Machine.ofForm_form] at hdec

/-! ## Encoding what a first word decodes to (R80, R84, R89) -/

/-- What `build` makes of a second word is well formed and encodes to `w`, with the second word if `w` has one. -/
def EncodesBack (w : Word) (build : Word → Form) : Prop :=
  ∀ w2, (build w2).ok = true ∧ (build w2).encode = if hasSecondWord w then [w, w2] else [w]

/-- What `g` makes of a second word encodes to the mode, the last field and, in modes 0 to 2, the second word. -/
def FieldsEncodeBack {α : Type} (encode : α → BitVec 3 × BitVec 4 × List Word) (mode : BitVec 3) (last : BitVec 4)
    (g : Word → α) : Prop :=
  ∀ w2, encode (g w2) = (mode, last, if mode.toNat ≤ 2 then [w2] else [])

theorem mode_cases (mode : BitVec 3) : mode = 0 ∨ mode = 1 ∨ mode = 2 ∨ mode = 3 ∨ mode = 4 ∨ mode = 5 ∨ mode = 6 ∨
    mode = 7 := by
  revert mode; decide

/-- A last field fixed at 0h (R89). -/
theorem fixedLast_ok {α : Type} {last : BitVec 4} {f g : α}
    (h : (if last = 0 then .ok f else .error DecodeError.nonCanonical) = Except.ok g) : last = 0 ∧ f = g := by
  split_ifs at h with hlast
  exact ⟨hlast, Except.ok.inj h⟩

theorem decodeOperand_ok {mode : BitVec 3} {last : BitVec 4} {g : Word → Operand}
    (h : decodeOperand mode last = .ok g) :
    FieldsEncodeBack Operand.encode mode last g ∧ ∀ w2, (g w2).ok = true := by
  rcases mode_cases mode with rfl | rfl | rfl | rfl | rfl | rfl | rfl | rfl
  · obtain ⟨rfl, rfl⟩ := fixedLast_ok h; exact ⟨fun _ => rfl, fun _ => rfl⟩
  · obtain rfl := Except.ok.inj h; exact ⟨fun _ => by simp [Operand.encode], fun _ => rfl⟩
  · obtain ⟨rfl, rfl⟩ := fixedLast_ok h; exact ⟨fun _ => rfl, fun _ => rfl⟩
  · obtain rfl := Except.ok.inj h; exact ⟨fun _ => by simp [Operand.encode], fun _ => dsp4Ok_dsp4OfBits last⟩
  · obtain rfl := Except.ok.inj h; exact ⟨fun _ => by simp [Operand.encode], fun _ => rfl⟩
  · obtain rfl := Except.ok.inj h; exact ⟨fun _ => by simp [Operand.encode], fun _ => imm4Ok_imm4OfBits last⟩
  · obtain rfl := Except.ok.inj h; exact ⟨fun _ => by simp [Operand.encode], fun _ => rfl⟩
  · obtain rfl := Except.ok.inj h; exact ⟨fun _ => by simp [Operand.encode], fun _ => rfl⟩

theorem decodePlace_ok {mode : BitVec 3} {last : BitVec 4} {g : Word → Place} (h : decodePlace mode last = .ok g) :
    FieldsEncodeBack Place.encode mode last g ∧ ∀ w2, (g w2).ok = true := by
  rcases mode_cases mode with rfl | rfl | rfl | rfl | rfl | rfl | rfl | rfl
  · obtain ⟨rfl, rfl⟩ := fixedLast_ok h; exact ⟨fun _ => rfl, fun _ => rfl⟩
  · obtain rfl := Except.ok.inj h; exact ⟨fun _ => by simp [Place.encode], fun _ => rfl⟩
  · cases h
  · obtain rfl := Except.ok.inj h; exact ⟨fun _ => by simp [Place.encode], fun _ => dsp4Ok_dsp4OfBits last⟩
  · cases h
  · cases h
  · obtain rfl := Except.ok.inj h; exact ⟨fun _ => by simp [Place.encode], fun _ => rfl⟩
  · obtain rfl := Except.ok.inj h; exact ⟨fun _ => by simp [Place.encode], fun _ => rfl⟩

theorem decodeTarget_ok {mode : BitVec 3} {last : BitVec 4} {g : Word → Target} (h : decodeTarget mode last = .ok g) :
    FieldsEncodeBack Target.encode mode last g := by
  rcases mode_cases mode with rfl | rfl | rfl | rfl | rfl | rfl | rfl | rfl
  case inl => obtain ⟨rfl, rfl⟩ := fixedLast_ok h; exact fun _ => rfl
  case inr.inl => obtain rfl := Except.ok.inj h; exact fun _ => by simp [Target.encode]
  all_goals cases h

theorem decodePort_ok {mode : BitVec 3} {last : BitVec 4} {g : Word → Port} (h : decodePort mode last = .ok g) :
    FieldsEncodeBack Port.encode mode last g := by
  rcases mode_cases mode with rfl | rfl | rfl | rfl | rfl | rfl | rfl | rfl
  case inl => obtain ⟨rfl, rfl⟩ := fixedLast_ok h; exact fun _ => rfl
  case inr.inr.inr.inr.inr.inr.inl => obtain rfl := Except.ok.inj h; exact fun _ => by simp [Port.encode]
  all_goals cases h

/-- A row with an operand: the first word's fields are the operand's, so it is the operand's encoding. -/
theorem encodesBack_of_operand {α : Type} {w : Word} {encode : α → BitVec 3 × BitVec 4 × List Word} {g : Word → α}
    {k : α → Form}
    (hop : 1 ≤ (fieldOp5 w).toNat ∧ (fieldOp5 w).toNat ≤ 12 ∨ 16 ≤ (fieldOp5 w).toNat ∧ (fieldOp5 w).toNat ≤ 23)
    (henc : ∀ a, (k a).encode = encodeWith (fieldOp5 w) (fieldRd w) (encode a)) (hok : ∀ w2, (k (g w2)).ok = true)
    (hg : FieldsEncodeBack encode (fieldMode w) (fieldLast w) g) : EncodesBack w fun w2 => k (g w2) := by
  intro w2
  refine ⟨hok w2, ?_⟩
  rw [henc, hg w2, encodeWith, firstWord_fields, hasSecondWord_eq]
  by_cases hmode : (fieldMode w).toNat ≤ 2 <;> simp [hmode, hop]

/-- An instruction of one word, which is made of its own four fields. -/
theorem encodesBack_of_single {w : Word} {f : Form} (hop : (fieldOp5 w).toNat = 0 ∨ 24 ≤ (fieldOp5 w).toNat)
    (hok : f.ok = true)
    (henc : f.encode = [firstWord (fieldOp5 w) (fieldMode w) (fieldRd w) (fieldLast w)]) : EncodesBack w fun _ => f := by
  intro w2
  have hone : hasSecondWord w = false := by
    rw [hasSecondWord_eq, decide_eq_false_iff_not]; omega
  rw [henc, hone, firstWord_fields]
  exact ⟨hok, rfl⟩

theorem decodeFixed_ok {rd last rdFixed lastFixed : BitVec 4} {f : Form} {build : Word → Form}
    (h : decodeFixed rd last rdFixed lastFixed f = .ok build) : rd = rdFixed ∧ last = lastFixed ∧ build = fun _ => f := by
  unfold decodeFixed at h
  split_ifs at h with hfields
  exact ⟨hfields.1, hfields.2, (Except.ok.inj h).symm⟩

section
variable {w : Word} {build : Word → Form}

theorem encodesBack_operandRow {k : Reg → Operand → Form} {op5 : BitVec 5} (hop : fieldOp5 w = op5)
    (hrange : 1 ≤ op5.toNat ∧ op5.toNat ≤ 12 ∨ 16 ≤ op5.toNat ∧ op5.toNat ≤ 23)
    (henc : ∀ rd o, (k rd o).encode = encodeWith op5 rd.bits o.encode) (hok : ∀ rd o, (k rd o).ok = o.ok)
    (h : (decodeOperand (fieldMode w) (fieldLast w)).map (fun o w2 => k (Reg.ofBits (fieldRd w)) (o w2)) = .ok build) :
    EncodesBack w build := by
  obtain ⟨g, hg, rfl⟩ := except_map_eq_ok.mp h
  obtain ⟨hfields, hg⟩ := decodeOperand_ok hg
  exact encodesBack_of_operand (by rw [hop]; exact hrange) (fun o => by rw [henc, hop, Reg.bits_ofBits])
    (fun w2 => by rw [hok, hg]) hfields

theorem encodesBack_st (hop : fieldOp5 w = 2) (h : decodeForm w = .ok build) : EncodesBack w build := by
  rw [decodeForm_st hop] at h
  obtain ⟨g, hg, rfl⟩ := except_map_eq_ok.mp h
  obtain ⟨hfields, hok⟩ := decodePlace_ok hg
  exact encodesBack_of_operand (.inl (by rw [hop]; decide)) (fun p => by simp [Form.encode, hop]) hok hfields

theorem encodesBack_jump (hop : fieldOp5 w = 20) (h : decodeForm w = .ok build) : EncodesBack w build := by
  cases hcond : Cond.ofBits (fieldRd w) with
  | none => simp [decodeForm, hop, hcond] at h
  | some cond =>
    rw [decodeForm_jump hop hcond] at h
    obtain ⟨g, hg, rfl⟩ := except_map_eq_ok.mp h
    exact encodesBack_of_operand (.inr (by rw [hop]; decide))
      (fun t => by rw [hop, ← Cond.bits_of_ofBits _ _ hcond]; rfl) (fun _ => rfl) (decodeTarget_ok hg)

theorem encodesBack_call (hop : fieldOp5 w = 21) (h : decodeForm w = .ok build) : EncodesBack w build := by
  by_cases hrd : fieldRd w = 0
  · rw [decodeForm_call hop hrd] at h
    obtain ⟨g, hg, rfl⟩ := except_map_eq_ok.mp h
    exact encodesBack_of_operand (.inr (by rw [hop]; decide)) (fun t => by simp [Form.encode, hop, hrd])
      (fun _ => rfl) (decodeTarget_ok hg)
  · have hrd' : fieldRd w ≠ 0#4 := hrd
    cases ht : decodeTarget (fieldMode w) (fieldLast w) <;> simp [decodeForm, hop, hrd', ht] at h

theorem encodesBack_portRow {k : Reg → Port → Form} {op5 : BitVec 5} (hop : fieldOp5 w = op5)
    (hrange : 16 ≤ op5.toNat ∧ op5.toNat ≤ 23) (henc : ∀ rd p, (k rd p).encode = encodeWith op5 rd.bits p.encode)
    (hok : ∀ rd p, (k rd p).ok = true)
    (h : (decodePort (fieldMode w) (fieldLast w)).map (fun p w2 => k (Reg.ofBits (fieldRd w)) (p w2)) = .ok build) :
    EncodesBack w build := by
  obtain ⟨g, hg, rfl⟩ := except_map_eq_ok.mp h
  exact encodesBack_of_operand (.inr (by rw [hop]; exact hrange)) (fun p => by rw [henc, hop, Reg.bits_ofBits])
    (fun w2 => hok _ _) (decodePort_ok hg)

/-- NO, RET, RETI, SVC, HALT: the low byte is the printed one. -/
theorem encodesBack_fixed {rdFixed lastFixed : BitVec 4} {f : Form}
    (hop : (fieldOp5 w).toNat = 0 ∨ 24 ≤ (fieldOp5 w).toNat) (hok : f.ok = true)
    (henc : f.encode = [firstWord (fieldOp5 w) (fieldMode w) rdFixed lastFixed])
    (h : decodeFixed (fieldRd w) (fieldLast w) rdFixed lastFixed f = .ok build) : EncodesBack w build := by
  obtain ⟨hrd, hlast, rfl⟩ := decodeFixed_ok h
  exact encodesBack_of_single hop hok (by rw [henc, hrd, hlast])

/-- Everything a first word can decode to, row by row of R87's table. -/
theorem encodesBack_of_decodeForm (h : decodeForm w = .ok build) : EncodesBack w build := by
  have hop (n : BitVec 5) (hn : (fieldOp5 w).toNat = n.toNat) : fieldOp5 w = n := BitVec.eq_of_toNat_eq hn
  have hrow := h
  unfold decodeForm at hrow
  dsimp only at hrow
  split at hrow <;> rename_i hn
  case h_1 =>
    split_ifs at hrow with hmode
    exact encodesBack_fixed (.inl hn) rfl (by rw [hop 0 hn, hmode]; rfl) hrow
  case h_2 => exact encodesBack_operandRow (hop 1 hn) (.inl (by decide)) (fun _ _ => rfl) (fun _ _ => rfl) hrow
  case h_3 => exact encodesBack_st (hop 2 hn) h
  case h_4 => exact encodesBack_operandRow (hop 3 hn) (.inl (by decide)) (fun _ _ => rfl) (fun _ _ => rfl) hrow
  case h_5 => exact encodesBack_operandRow (hop 4 hn) (.inl (by decide)) (fun _ _ => rfl) (fun _ _ => rfl) hrow
  case h_6 => exact encodesBack_operandRow (hop 5 hn) (.inl (by decide)) (fun _ _ => rfl) (fun _ _ => rfl) hrow
  case h_7 => exact encodesBack_operandRow (hop 6 hn) (.inl (by decide)) (fun _ _ => rfl) (fun _ _ => rfl) hrow
  case h_8 => exact encodesBack_operandRow (hop 7 hn) (.inl (by decide)) (fun _ _ => rfl) (fun _ _ => rfl) hrow
  case h_9 => exact encodesBack_operandRow (hop 8 hn) (.inl (by decide)) (fun _ _ => rfl) (fun _ _ => rfl) hrow
  case h_10 => exact encodesBack_operandRow (hop 9 hn) (.inl (by decide)) (fun _ _ => rfl) (fun _ _ => rfl) hrow
  case h_11 => exact encodesBack_operandRow (hop 10 hn) (.inl (by decide)) (fun _ _ => rfl) (fun _ _ => rfl) hrow
  case h_12 => exact encodesBack_operandRow (hop 11 hn) (.inl (by decide)) (fun _ _ => rfl) (fun _ _ => rfl) hrow
  case h_13 => exact encodesBack_operandRow (hop 12 hn) (.inl (by decide)) (fun _ _ => rfl) (fun _ _ => rfl) hrow
  case h_14 => exact encodesBack_operandRow (hop 16 hn) (.inr (by decide)) (fun _ _ => rfl) (fun _ _ => rfl) hrow
  case h_15 => exact encodesBack_operandRow (hop 17 hn) (.inr (by decide)) (fun _ _ => rfl) (fun _ _ => rfl) hrow
  case h_16 => exact encodesBack_operandRow (hop 18 hn) (.inr (by decide)) (fun _ _ => rfl) (fun _ _ => rfl) hrow
  case h_17 => exact encodesBack_operandRow (hop 19 hn) (.inr (by decide)) (fun _ _ => rfl) (fun _ _ => rfl) hrow
  case h_18 => exact encodesBack_jump (hop 20 hn) h
  case h_19 => exact encodesBack_call (hop 21 hn) h
  case h_20 => exact encodesBack_portRow (hop 22 hn) (by decide) (fun _ _ => rfl) (fun _ _ => rfl) hrow
  case h_21 => exact encodesBack_portRow (hop 23 hn) (by decide) (fun _ _ => rfl) (fun _ _ => rfl) hrow
  case h_22 =>
    split_ifs at hrow with hpush hlast hpop hlast
    · obtain rfl := Except.ok.inj hrow
      exact encodesBack_of_single (.inr (by omega)) rfl (by simp [Form.encode, hop 24 hn, hpush, hlast])
    · obtain rfl := Except.ok.inj hrow
      exact encodesBack_of_single (.inr (by omega)) rfl (by simp [Form.encode, hop 24 hn, hpop, hlast])
  case h_23 =>
    split_ifs at hrow with hret hreti
    · exact encodesBack_fixed (.inr (by omega)) rfl (by rw [hop 26 hn, hret]; rfl) hrow
    · exact encodesBack_fixed (.inr (by omega)) rfl (by rw [hop 26 hn, hreti]; rfl) hrow
  case h_24 =>
    split_ifs at hrow with hmode
    exact encodesBack_fixed (.inr (by omega)) rfl (by rw [hop 30 hn, hmode]; rfl) hrow
  case h_25 =>
    split_ifs at hrow with hmode
    exact encodesBack_fixed (.inr (by omega)) rfl (by rw [hop 31 hn, hmode]; rfl) hrow
  case h_26 => cases hrow

end

/-- Settles O2: each row of R87's table gives back the fields it was decoded from. -/
theorem encodeOfDecodedWords : Obligations.EncodeOfDecodedWords := by
  intro w1 build h w2
  obtain ⟨f, hf, rfl⟩ := decodeFirst_eq_ok.mp h
  obtain ⟨hok, henc⟩ := encodesBack_of_decodeForm hf w2
  constructor
  · rw [Instr.WellFormed, wf_eq_ok, Machine.form_ofForm, hok]
  · rw [encode, Machine.form_ofForm, henc]

/-! ## The undefined encodings (R90) -/

theorem decodeOperand_ne_undefined (mode : BitVec 3) (last : BitVec 4) :
    decodeOperand mode last ≠ .error .undefined := by
  unfold decodeOperand
  split <;> try split_ifs
  all_goals simp

theorem decodePlace_undefined (mode : BitVec 3) (last : BitVec 4) :
    decodePlace mode last = .error .undefined ↔ mode.toNat = 2 ∨ mode.toNat = 4 ∨ mode.toNat = 5 := by
  have := mode.isLt
  unfold decodePlace
  split <;> try split_ifs
  all_goals simp_all
  omega

theorem decodeTarget_undefined (mode : BitVec 3) (last : BitVec 4) :
    decodeTarget mode last = .error .undefined ↔ 2 ≤ mode.toNat := by
  unfold decodeTarget
  split <;> try split_ifs
  all_goals simp_all
  omega

theorem decodePort_undefined (mode : BitVec 3) (last : BitVec 4) :
    decodePort mode last = .error .undefined ↔ mode.toNat ≠ 0 ∧ mode.toNat ≠ 6 := by
  unfold decodePort
  split <;> try split_ifs
  all_goals simp_all

theorem decodeFixed_ne_undefined (rd last rdFixed lastFixed : BitVec 4) (f : Form) :
    decodeFixed rd last rdFixed lastFixed f ≠ .error .undefined := by
  unfold decodeFixed; split_ifs <;> simp

theorem fixedLast_ne_undefined {α : Type} (last : BitVec 4) (f : α) :
    (if last = 0#4 then .ok f else .error DecodeError.nonCanonical) ≠ Except.error DecodeError.undefined := by
  split_ifs <;> simp

theorem cond_ofBits_eq_none (b : BitVec 4) : Cond.ofBits b = none ↔ b = 13 := by revert b; decide

/-- The blank cells of the opcode map by `op5` and mode (R87, R90 a). -/
def blankCell (op5 mode : Nat) : Bool :=
  op5 == 0 && mode != 0 || op5 == 2 && (mode == 2 || mode == 4 || mode == 5) || (13 ≤ op5 && op5 ≤ 15) ||
  (op5 == 20 || op5 == 21) && 2 ≤ mode || (op5 == 22 || op5 == 23) && mode != 0 && mode != 6 ||
  (op5 == 24 || op5 == 26) && mode != 0 && mode != 4 || op5 == 25 || (27 ≤ op5 && op5 ≤ 29) || op5 == 30 && mode != 0 ||
  op5 == 31 && mode != 7

/-- The same as OP values (R90 a). -/
def blankOp (op : Nat) : Bool :=
  (0x01 ≤ op && op ≤ 0x07) || op == 0x12 || op == 0x14 || op == 0x15 || (0x68 ≤ op && op ≤ 0x7F) ||
  (0xA2 ≤ op && op ≤ 0xA7) || (0xAA ≤ op && op ≤ 0xAF) || (0xB1 ≤ op && op ≤ 0xB5) || op == 0xB7 ||
  (0xB9 ≤ op && op ≤ 0xBD) || op == 0xBF || (0xC1 ≤ op && op ≤ 0xC3) || (0xC5 ≤ op && op ≤ 0xCF) ||
  (0xD1 ≤ op && op ≤ 0xD3) || (0xD5 ≤ op && op ≤ 0xEF) || (0xF1 ≤ op && op ≤ 0xFE)

theorem blankOp_eq_blankCell : ∀ op5 < 32, ∀ mode < 8, blankOp (op5 * 8 + mode) = blankCell op5 mode := by decide

/-- The `op5` values without a row in R87's table. -/
theorem blankCell_of_no_row : ∀ op5 < 32, op5 ∉ [0, 1, 2, 3, 4, 5, 6, 7, 8, 9, 10, 11, 12, 16, 17, 18, 19, 20, 21, 22, 23, 24,
    26, 30, 31] → ∀ mode < 8, blankCell op5 mode = true := by
  decide

/-- Row by row of R87's table: what is undefined is a blank cell or a jump with Rd = Dh. -/
theorem decodeForm_undefined_iff (w : Word) : decodeForm w = .error .undefined ↔
    blankCell (fieldOp5 w).toNat (fieldMode w).toNat = true ∨
      ((fieldOp5 w).toNat = 20 ∧ (fieldMode w).toNat < 2) ∧ fieldRd w = 13 := by
  have hop := (fieldOp5 w).isLt
  have hmode := (fieldMode w).isLt
  unfold decodeForm
  dsimp only
  split <;> rename_i hn
  case h_1 | h_22 | h_23 | h_24 | h_25 =>
    rcases mode_cases (fieldMode w) with hm | hm | hm | hm | hm | hm | hm | hm <;>
      simp [blankCell, hn, hm, decodeFixed_ne_undefined, fixedLast_ne_undefined]
  case h_3 => simp [blankCell, hn, except_map_eq_error, decodePlace_undefined, or_assoc]
  case h_18 =>
    cases hcond : Cond.ofBits (fieldRd w) with
    | none => simp [blankCell, hn, (cond_ofBits_eq_none _).mp hcond]; omega
    | some cond =>
      have hrd : fieldRd w ≠ 13#4 := fun e => by simp [(cond_ofBits_eq_none _).mpr e] at hcond
      simp [blankCell, hn, hrd, except_map_eq_error, decodeTarget_undefined]
  case h_19 =>
    cases ht : decodeTarget (fieldMode w) (fieldLast w) with
    | error e => simp [blankCell, hn, ← decodeTarget_undefined _ (fieldLast w), ht]
    | ok g =>
      have hmode : ¬2 ≤ (fieldMode w).toNat := by simp [← decodeTarget_undefined _ (fieldLast w), ht]
      by_cases hrd : fieldRd w = 0#4 <;> simp [blankCell, hn, hmode, hrd]
  case h_20 | h_21 => simp [blankCell, hn, except_map_eq_error, decodePort_undefined]
  case h_26 =>
    refine iff_of_true rfl (.inl (blankCell_of_no_row _ hop ?_ _ hmode))
    simp only [List.mem_cons, List.not_mem_nil, or_false, not_or]
    and_intros <;> assumption
  all_goals simp [blankCell, hn, except_map_eq_error, decodeOperand_ne_undefined]

/-- Settles O3: OP is `op5` and the mode; the cells that are blank in every Rd are R90's, and the jumps with Rd = Dh are in
`op5` 20 with the two modes they have. -/
theorem undefinedEncodingsExactly : Obligations.UndefinedEncodingsExactly := by
  intro w
  have hop := hiByte_toNat w
  have hop5 := (fieldOp5 w).isLt
  have hmode := (fieldMode w).isLt
  have hjump : (fieldOp5 w).toNat = 20 ∧ (fieldMode w).toNat < 2 ↔
      (hiByte w).toNat = 0xA0 ∨ (hiByte w).toNat = 0xA1 := by omega
  rw [decodeFirst_eq_error_iff, decodeForm_undefined_iff, hjump, ← blankOp_eq_blankCell _ hop5 _ hmode, ← hop]
  simp only [blankOp, Bool.or_eq_true, Bool.and_eq_true, decide_eq_true_eq, beq_iff_eq, or_assoc]

/-- Settles O4: the six words evaluate. -/
theorem writtenOutWordsDecode : Obligations.WrittenOutWordsDecode := ⟨rfl, rfl, rfl, rfl, rfl, rfl⟩

end Sys2Proof
end

section
/-! PROOFS of the whole-machine statements: what an instruction in user mode can do, and the invariant. -/

namespace Sys2Proof.Machine

/-! ## What every instruction does: a composition of updates, or an exception taken

A predicate on states that each update of an instruction keeps is kept by every instruction that goes on without a trap.
Where the instruction traps, it has done no more than read: a predicate that reads keep holds in the state whose exception
is taken. -/

/-- A memory read, and what other agents do between two of them, keep `Q`. -/
structure KeptByReads (Q : State → Prop) : Prop where
  setTlb : ∀ {s kind u}, OnlyTlbMarks kind s.tlb u → Q s → Q (s.setTlb u)
  otherAgents : ∀ {s}, Q s → Q (otherAgents s)

/-- The updates that the meanings of the instructions are made of keep `P`. -/
structure KeptByUpdates (P : State → Prop) : Prop extends KeptByReads P where
  setPc : ∀ {s} v, P s → P (s.setPc v)
  advanceDraws : ∀ {s} n, P s → P (s.advanceDraws n)
  storeByte : ∀ {s} pa b, P s → P (s.storeByte pa b)
  writeReg : ∀ {s} r v, P s → P (s.writeReg r v)
  setFlagAfter : ∀ {s} r c v, P s → P (s.setFlag (s.flag.after r c v))
  setFlagLoad : ∀ {s t} w, P s → P t → P (t.setFlag (s.flag.load w))
  appendTrace : ∀ {s e}, ioAddressOk (ioEventAddress e) = true → P s → P (s.appendTrace e)
  portRead : ∀ {a v s t}, PortReadFrame a v s t → P s → P t
  portWrite : ∀ {a v s t}, portWrite a v s = .done () t → P s → P t
  halt : ∀ {s}, s.flag.p = true → P s → P (s.setHalted true)

/-- The access leaves a state with `P`; where it raises, one with `Q`. -/
def AccessWithin {α : Type} (P Q : State → Prop) (x : Access α) : Prop :=
  (∀ v t, x = .done v t → P t) ∧ ∀ e t, x = .raised e t → Q t

/-- A next state has `P`, or is that of taking an exception in a state with `Q`. -/
def ResultWithin (P Q : State → Prop) (r : Result) : Prop :=
  ∀ t, r = .next t → P t ∨ ∃ e pc0 advanced s, Q s ∧ r = takeException e pc0 advanced s

theorem ioRead_illegal {a : Word} (h : ¬ioAddressOk a = true) (s : State) : ∃ x, ioRead a s = .refused x := by
  rw [ioAddressOk_iff] at h
  unfold ioRead
  split_ifs with hrange hodd
  · exact ⟨_, rfl⟩
  · exact ⟨_, rfl⟩
  · exact absurd ⟨by omega, by simpa using hodd⟩ h

theorem ioWrite_illegal {a : Word} (h : ¬ioAddressOk a = true) (v : Word) (s : State) : ∃ x, ioWrite a v s = .refused x := by
  rw [ioAddressOk_iff] at h
  unfold ioWrite
  split_ifs with hrange hodd
  · exact ⟨_, rfl⟩
  · exact ⟨_, rfl⟩
  · exact absurd ⟨by omega, by simpa using hodd⟩ h

section
variable {P P' Q : State → Prop}

theorem accessWithin_done {α : Type} {v : α} {s : State} (h : P s) : AccessWithin P Q (.done v s) :=
  ⟨by rintro _ _ ⟨⟩; exact h, by rintro _ _ ⟨⟩⟩

theorem accessWithin_refused {α : Type} (x : Refusal) : AccessWithin (α := α) P Q (.refused x) :=
  ⟨by rintro _ _ ⟨⟩, by rintro _ _ ⟨⟩⟩

theorem resultWithin_next {t : State} (h : P t) : ResultWithin P Q (.next t) := by
  rintro _ ⟨⟩; exact .inl h

theorem resultWithin_refused (x : Refusal) : ResultWithin P Q (.refused x) := by
  rintro _ ⟨⟩

theorem resultWithin_takeException {e : Exc} {pc0 advanced : Word} {s : State} (h : Q s) :
    ResultWithin P Q (takeException e pc0 advanced s) := fun _ _ => .inr ⟨e, pc0, advanced, s, h, rfl⟩

theorem resultWithin_complete {α : Type} {x : Access α} {pc0 advanced : Word} {k : α → State → Result}
    (hx : AccessWithin P' Q x) (hk : ∀ v s, P' s → ResultWithin P Q (k v s)) :
    ResultWithin P Q (complete x pc0 advanced k) := by
  cases x with
  | done v s => exact hk v s (hx.1 v s rfl)
  | raised e s => exact resultWithin_takeException (hx.2 e s rfl)
  | refused r => exact resultWithin_refused r

end

/-! ## The reads -/

section
variable {Q : State → Prop} (hQ : KeptByReads Q) {s : State} (h : Q s)
include hQ h

theorem translate_within {addr pa : Word} {kind : AccessKind} {s1 : State} (ht : translate addr kind s = .done pa s1) :
    Q s1 := by
  obtain ⟨hs1, hmarks, _, _⟩ := translate_done ht
  rw [hs1]
  exact hQ.setTlb hmarks h

theorem memReadWord_within (kind : AccessKind) (addr : Word) : AccessWithin Q Q (memReadWord kind addr s) := by
  constructor
  · intro v t ht
    obtain ⟨_, pa, htr, _⟩ := memReadWord_done.mp ht
    exact translate_within hQ h htr
  · intro e t ht
    rw [memReadWord_raised_state ht]; exact h

theorem memReadByte_within (addr : Word) : AccessWithin Q Q (memReadByte addr s) := by
  constructor
  · intro v t ht
    obtain ⟨pa, htr, _⟩ := memReadByte_done.mp ht
    exact translate_within hQ h htr
  · intro e t ht
    rw [(translate_raised (memReadByte_raised.mp ht)).1]; exact h

theorem readOperand_within (o : Operand) : AccessWithin Q Q (readOperand o s) := by
  cases o with
  | drct | index | fpRlt | indr => exact memReadWord_within hQ h .read _
  | imm | reg | imm4 => exact accessWithin_done h
  | bIndr => exact memReadByte_within hQ h _

theorem trapReturn_raised_within {e : Exc} {t : State} (ht : trapReturn s = .raised e t) : Q t := by
  have hfirst := memReadWord_within hQ h .read s.sp
  cases h1 : memReadWord .read s.sp s with
  | raised e1 s1 =>
    rw [trapReturn_raised_first h1] at ht
    cases ht; exact hfirst.2 _ _ h1
  | refused r => rw [trapReturn_refused_first h1] at ht; cases ht
  | done f s1 =>
    have hsecond := memReadWord_within hQ (hQ.otherAgents (hfirst.1 f s1 h1)) .read (s.sp + 2)
    cases h2 : memReadWord .read (s.sp + 2) (otherAgents s1) with
    | raised e2 s2 =>
      rw [trapReturn_raised_second h1 h2] at ht
      cases ht; exact hsecond.2 _ _ h2
    | refused r => rw [trapReturn_refused_second h1 h2] at ht; cases ht
    | done v s2 => rw [trapReturn_done.mpr ⟨f, s1, v, s2, h1, h2, rfl⟩] at ht; cases ht

end

/-! ## The writes, the stack and the ports -/

section
variable {P Q : State → Prop} (hP : KeptByUpdates P) {s : State} (h : P s)
include hP h

theorem storeWord_within (pa v : Word) : P (s.storeWord pa v) := hP.storeByte _ _ (hP.storeByte _ _ h)

theorem commitResult_within (rd : Reg) (x : Computed) (next : Word) : P (commitResult rd x next s) :=
  hP.setPc _ (hP.advanceDraws _ (hP.writeReg _ _ (hP.setFlagAfter _ _ _ h)))

variable (hq : Q s)
include hq

theorem memWriteWord_within (addr v : Word) : AccessWithin P Q (memWriteWord addr v s) := by
  constructor
  · intro _ t ht
    obtain ⟨_, pa, s1, htr, _, rfl⟩ := memWriteWord_done.mp ht
    exact storeWord_within hP (translate_within hP.toKeptByReads h htr) pa v
  · intro e t ht
    rcases memWriteWord_raised.mp ht with ⟨_, _, rfl⟩ | ⟨_, htr⟩
    · exact hq
    · rw [(translate_raised htr).1]; exact hq

theorem memWriteByte_within (addr v : Word) : AccessWithin P Q (memWriteByte addr v s) := by
  constructor
  · intro _ t ht
    obtain ⟨pa, s1, htr, _, rfl⟩ := memWriteByte_done.mp ht
    exact hP.storeByte _ _ (translate_within hP.toKeptByReads h htr)
  · intro e t ht
    rw [(translate_raised (memWriteByte_raised.mp ht)).1]; exact hq

theorem writePlace_within (p : Place) (v : Word) : AccessWithin P Q (writePlace p v s) := by
  cases p with
  | drct | index | fpRlt | indr => exact memWriteWord_within hP h hq _ v
  | bIndr => exact memWriteByte_within hP h hq _ v

theorem push_within (v : Word) : AccessWithin P Q (push v s) := by
  constructor
  · intro _ t ht
    obtain ⟨_, pa, s1, htr, _, rfl⟩ := push_done.mp ht
    exact hP.writeReg _ _ (storeWord_within hP (translate_within hP.toKeptByReads h htr) pa v)
  · intro e t ht
    exact (memWriteWord_within hP h hq _ v).2 e t (push_raised.mp ht)

theorem pop_within : AccessWithin P Q (pop s) := by
  constructor
  · intro v t ht
    obtain ⟨s1, hread, rfl⟩ := pop_done.mp ht
    exact hP.writeReg _ _ ((memReadWord_within hP.toKeptByReads h _ _).1 v s1 hread)
  · intro e t ht
    rw [memReadWord_raised_state (pop_raised.mp ht)]; exact hq

theorem trapReturn_within (hQ : KeptByReads Q) : AccessWithin P Q (trapReturn s) := by
  refine ⟨fun _ t ht => ?_, fun e t ht => trapReturn_raised_within hQ hq ht⟩
  obtain ⟨f, s1, v, s2, h1, h2, rfl⟩ := trapReturn_done.mp ht
  have hs1 : P s1 := (memReadWord_within hP.toKeptByReads h _ _).1 f s1 h1
  have hs2 : P s2 := (memReadWord_within hP.toKeptByReads (hP.otherAgents hs1) _ _).1 v s2 h2
  exact hP.setPc _ (hP.setFlagLoad _ h (hP.writeReg _ _ hs2))

omit hq in
theorem ioRead_within (a : Word) : AccessWithin P Q (ioRead a s) := by
  by_cases hok : ioAddressOk a = true
  · rw [ioRead_ok hok]
    obtain ⟨v, t, hread, hframe⟩ := portRead_done a (s.appendTrace (.input a))
    rw [hread]
    exact accessWithin_done (hP.portRead hframe (hP.appendTrace hok h))
  · obtain ⟨x, hx⟩ := ioRead_illegal hok s
    rw [hx]
    exact accessWithin_refused x

omit hq in
theorem ioWrite_within (a v : Word) : AccessWithin P Q (ioWrite a v s) := by
  by_cases hok : ioAddressOk a = true
  · rw [ioWrite_ok hok]
    refine ⟨fun _ t ht => hP.portWrite ht (hP.appendTrace hok h), fun e t ht => ?_⟩
    exact absurd ht (portWrite_not_raised a v _ t e)
  · obtain ⟨x, hx⟩ := ioWrite_illegal hok v s
    rw [hx]
    exact accessWithin_refused x

/-! ## The instructions -/

variable (hQ : KeptByReads Q)
include hQ

/-- Reading an operand and going on from a state with both predicates. -/
theorem completeOperand_within (o : Operand) {pc0 advanced : Word} {k : Word → State → Result}
    (hk : ∀ v s, P s → Q s → ResultWithin P Q (k v s)) : ResultWithin P Q (complete (readOperand o s) pc0 advanced k) := by
  have hp1 := readOperand_within hP.toKeptByReads h o
  have hq1 := readOperand_within hQ hq o
  exact resultWithin_complete (P' := fun s => P s ∧ Q s) ⟨fun v t ht => ⟨hp1.1 v t ht, hq1.1 v t ht⟩, hq1.2⟩
    fun v s hs => hk v s hs.1 hs.2

theorem execBinary_within (f : Word → Word → Nat → Computed) (rd : Reg) (o : Operand) :
    ResultWithin P Q (execBinary f rd o s) := by
  unfold execBinary
  split_ifs
  · exact resultWithin_refused _
  · exact completeOperand_within hP h hq hQ o fun b s1 h1 _ => resultWithin_next (commitResult_within hP h1 _ _ _)

theorem execDivision_within (f : Word → Word → Nat → Computed) (rd : Reg) (o : Operand) :
    ResultWithin P Q (execDivision f rd o s) := by
  unfold execDivision
  split_ifs
  · exact resultWithin_refused _
  · refine completeOperand_within hP h hq hQ o fun b s1 h1 hq1 => ?_
    split_ifs
    · exact resultWithin_takeException hq1
    · exact resultWithin_next (commitResult_within hP h1 _ _ _)

theorem exec_arith_within (op : ArithOp) (rd : Reg) (o : Operand) :
    ResultWithin P Q (exec (Instr.ofForm (.arith op rd o)) s) := by
  rw [exec_arith]
  cases op with
  | cmp =>
    exact completeOperand_within hP h hq hQ o fun _ _ h1 _ =>
      resultWithin_next (hP.setPc _ (hP.advanceDraws _ (hP.setFlagAfter _ _ _ h1)))
  | div | mod => exact execDivision_within hP h hq hQ _ rd o
  | add | sub | and | or | xor | adds | mul => exact execBinary_within hP h hq hQ _ rd o

omit hQ in
theorem execIn_within (rd : Reg) (p : Port) : ResultWithin P Q (execIn rd p s) := by
  unfold execIn
  split_ifs
  · exact resultWithin_takeException hq
  · exact resultWithin_complete (ioRead_within hP h _) fun _ _ h1 => resultWithin_next (hP.setPc _ (hP.writeReg _ _ h1))

omit hQ in
theorem execOut_within (rd : Reg) (p : Port) : ResultWithin P Q (execOut rd p s) := by
  unfold execOut
  split_ifs
  · exact resultWithin_takeException hq
  · exact resultWithin_complete (ioWrite_within hP h _ _) fun _ _ h1 => resultWithin_next (hP.setPc _ h1)

omit hQ in
theorem execPush_within (rd : Reg) : ResultWithin P Q (execPush rd s) := by
  unfold execPush
  split_ifs
  · exact resultWithin_refused _
  · exact resultWithin_complete (push_within hP h hq _) fun _ _ h1 => resultWithin_next (hP.setPc _ h1)

omit hQ in
theorem execPop_within (rd : Reg) : ResultWithin P Q (execPop rd s) := by
  unfold execPop
  split_ifs
  · exact resultWithin_refused _
  · exact resultWithin_complete (pop_within hP h hq) fun _ _ h1 => resultWithin_next (hP.setPc _ (hP.writeReg _ _ h1))

omit hQ in
theorem execHalt_within : ResultWithin P Q (execHalt s) := by
  unfold execHalt
  split_ifs with hp
  · exact resultWithin_next (hP.setPc _ (hP.halt hp h))
  · exact resultWithin_takeException hq

/-- Every instruction, group by group. -/
theorem exec_within (i : Instr) : ResultWithin P Q (exec i s) := by
  rw [← ofForm_form i]
  cases i.form with
  | no => exact resultWithin_next (hP.setPc _ h)
  | ld rd o =>
    rw [exec_ld]
    exact completeOperand_within hP h hq hQ o fun _ _ h1 _ => resultWithin_next (hP.setPc _ (hP.writeReg _ _ h1))
  | st rd p =>
    rw [exec_st]
    exact resultWithin_complete (writePlace_within hP h hq p _) fun _ _ h1 => resultWithin_next (hP.setPc _ h1)
  | arith op rd o => exact exec_arith_within hP h hq hQ op rd o
  | shift op rd o => rw [exec_shift]; exact execBinary_within hP h hq hQ _ rd o
  | jump cond t => rw [exec_jump]; exact resultWithin_next (hP.setPc _ h)
  | call t =>
    rw [exec_call]
    exact resultWithin_complete (push_within hP h hq _) fun _ _ h1 => resultWithin_next (hP.setPc _ h1)
  | input rd p => rw [exec_input]; exact execIn_within hP h hq rd p
  | output rd p => rw [exec_output]; exact execOut_within hP h hq rd p
  | push rd => exact execPush_within hP h hq rd
  | pop rd => exact execPop_within hP h hq rd
  | ret => exact resultWithin_complete (pop_within hP h hq) fun _ _ h1 => resultWithin_next (hP.setPc _ h1)
  | reti => exact resultWithin_complete (trapReturn_within hP h hq hQ) fun _ _ h1 => resultWithin_next h1
  | svc => exact resultWithin_takeException hq
  | halt => exact execHalt_within hP h hq

end

/-! ## User mode (R253, R254) -/

/-- User mode's E, P, I, SSP and `halted` are as in `s`. -/
def UserStateKept (s t : State) : Prop :=
  t.flag.e = s.flag.e ∧ t.flag.p = false ∧ t.flag.i = s.flag.i ∧ t.ssp = s.ssp ∧ t.halted = s.halted

theorem writeReg_ssp_user {s : State} (hp : s.flag.p = false) (r : Reg) (v : Word) : (s.writeReg r v).ssp = s.ssp := by
  unfold State.writeReg
  rw [hp]
  cases r <;> rfl

/-- In user mode no update reaches SSP or the system flags: a register number names USP, and FLAG is under its mask (R24). -/
theorem userStateKept_updates (s0 : State) : KeptByUpdates (UserStateKept s0) where
  setPc := fun _ h => h
  advanceDraws := fun _ h => h
  setTlb := fun _ h => h
  storeByte := fun _ _ h => h
  otherAgents := fun h => by simpa [UserStateKept] using h
  writeReg := by
    rintro s r v ⟨he, hp, hi, hssp, hhalted⟩
    obtain ⟨hle, hlp, hli⟩ := load_user s.flag v hp
    refine ⟨?_, ?_, ?_, by rw [writeReg_ssp_user hp, hssp], by rw [writeReg_halted, hhalted]⟩ <;> rw [writeReg_flag] <;>
      split_ifs
    · rw [hle, he]
    · exact he
    · exact hlp
    · exact hp
    · rw [hli, hi]
    · exact hi
  setFlagAfter := fun _ _ _ h => h
  setFlagLoad := by
    rintro s t w ⟨he, hp, hi, _, _⟩ ⟨_, _, _, hssp, hhalted⟩
    obtain ⟨hle, hlp, hli⟩ := load_user s.flag w hp
    exact ⟨hle.trans he, hlp, hli.trans hi, hssp, hhalted⟩
  appendTrace := fun _ h => h
  portRead := by
    rintro a v s t hframe ⟨he, hp, hi, hssp, hhalted⟩
    exact ⟨by rw [hframe.flag, he], by rw [hframe.flag, hp], by rw [hframe.flag, hi],
      (hframe.readPhys .ssp).trans hssp, by rw [hframe.halted, hhalted]⟩
  portWrite := by
    intro a v s t hw h
    rcases portWrite_done hw with ⟨_, rfl⟩ | ⟨_, _, _, rfl⟩ | ⟨_, _, rfl⟩ | ⟨_, _, _, _, _, rfl⟩ <;> exact h
  halt := by
    rintro s hp ⟨_, hp', _⟩
    rw [hp] at hp'; cases hp'

theorem sameFlagSsp_reads (s0 : State) : KeptByReads fun t => t.flag = s0.flag ∧ t.ssp = s0.ssp where
  setTlb := fun _ h => h
  otherAgents := fun h => by simpa using h

theorem recordDetails_flag (e : Exc) (s : State) : (recordDetails e s).flag = s.flag := by cases e <;> rfl
theorem recordDetails_ssp (e : Exc) (s : State) : (recordDetails e s).ssp = s.ssp := by cases e <;> rfl

/-- Settles O56: no update of an instruction reaches E, P, I or SSP in user mode, and what takes an exception has only read
memory before. -/
theorem userModeIsConfined : Obligations.UserModeIsConfined := by
  intro i s t hp ht
  have hstart : UserStateKept s s := ⟨rfl, hp, rfl, rfl, rfl⟩
  rcases exec_within (userStateKept_updates s) hstart ⟨rfl, rfl⟩ (sameFlagSsp_reads s) i t ht with
    hkept | ⟨e, pc0, advanced, s1, ⟨hflag, hssp⟩, htrap⟩
  · exact .inl hkept
  · refine .inr ⟨excSlot e, savedPc e pc0 advanced, recordDetails e s1, htrap, ?_, ?_, ?_⟩
    · rw [recordDetails_flag, hflag]
    · rw [recordDetails_ssp, hssp]
    · obtain ⟨_, rfl⟩ := takeException_next.mp (htrap.symm.trans ht)
      rw [trapState_flag]; rfl

/-! ## The invariant -/

/-- The invariant's clauses but that on the requests, which each step samples anew. -/
def CoreInv (s : State) : Prop := MemCanonical s ∧ TlbReservedClear s ∧ CauseIsOneOfTwo s ∧ TracePortsLegal s

theorem tlbReserved_iff (e : BitVec 24) : e &&& 0x6000 = 0 ↔ e.getLsbD 13 = false ∧ e.getLsbD 14 = false := by
  simp only [BitVec.getLsbD_eq_getElem (show 13 < 24 by decide), BitVec.getLsbD_eq_getElem (show 14 < 24 by decide)]
  constructor
  · intro h
    exact ⟨by simpa using congrArg (BitVec.getLsbD · 13) h, by simpa using congrArg (BitVec.getLsbD · 14) h⟩
  · intro hbits
    apply BitVec.eq_of_getLsbD_eq
    intro i hi
    interval_cases i <;> simp [hbits]

/-- Bits 14 and 13 of an entry are those of its low half. -/
theorem tlbReserved_append (page : Byte) (low : Word) :
    (page ++ low : BitVec (8 + 16)) &&& (0x6000 : BitVec 24) = 0 ↔ low.getLsbD 13 = false ∧ low.getLsbD 14 = false := by
  have hbit (i : Nat) (hi : i < 16) : (page ++ low : BitVec (8 + 16)).getLsbD i = low.getLsbD i := by
    rw [BitVec.getLsbD_append, if_pos hi]
  rw [← hbit 13 (by decide), ← hbit 14 (by decide)]
  exact tlbReserved_iff _

/-- An OUT to a TLB port leaves bits 14 and 13 clear: it masks them in the low half and keeps that half with the high one
(R66, R67). -/
theorem tlbReservedClear_tlbAfterOut {t : Vector (BitVec 24) 8} (h : ∀ k, tlbGet t k &&& 0x6000 = 0) (a v : Word) :
    ∀ k, tlbGet (tlbAfterOut a v t) k &&& 0x6000 = 0 := by
  intro k
  have hold := (tlbReserved_iff _).mp (h (tlbPortIndex a))
  unfold tlbAfterOut
  dsimp only
  split_ifs <;> rw [tlbGet_tlbSet] <;> split_ifs
  · rw [tlbReserved_append]; simp
  · exact h k
  · rw [tlbReserved_append]; simpa using hold
  · exact h k

theorem coreInv_updates : KeptByUpdates CoreInv where
  setPc := fun _ h => h
  advanceDraws := fun _ h => h
  setTlb := fun hmarks ⟨hmem, htlb, hcause, htrace⟩ => ⟨hmem, tlbReservedClear_of_marks hmarks htlb, hcause, htrace⟩
  storeByte := fun pa b ⟨hmem, htlb, hcause, htrace⟩ => ⟨wf_storeByte pa b hmem, htlb, hcause, htrace⟩
  otherAgents := by
    rintro s ⟨hmem, htlb, hcause, htrace⟩
    refine ⟨wf_otherAgents hmem, ?_, ?_, ?_⟩
    · rwa [TlbReservedClear, otherAgents_tlb]
    · rwa [CauseIsOneOfTwo, otherAgents_violationCauseFresh, otherAgents_violationCause]
    · rwa [TracePortsLegal, otherAgents_trace]
  writeReg := by
    rintro s r v ⟨hmem, htlb, hcause, htrace⟩
    refine ⟨?_, ?_, ?_, ?_⟩
    · rwa [MemCanonical, writeReg_mem]
    · rwa [TlbReservedClear, writeReg_tlb]
    · rwa [CauseIsOneOfTwo, writeReg_violationCauseFresh, writeReg_violationCause]
    · rwa [TracePortsLegal, writeReg_trace]
  setFlagAfter := fun _ _ _ h => h
  setFlagLoad := fun _ _ h => h
  appendTrace := by
    rintro s e he ⟨hmem, htlb, hcause, htrace⟩
    refine ⟨hmem, htlb, hcause, fun e' he' => ?_⟩
    rcases List.mem_append.mp he' with hold | hnew
    · exact htrace e' hold
    · rw [List.mem_singleton.mp hnew]; exact he
  portRead := by
    rintro a v s t hframe ⟨hmem, htlb, hcause, htrace⟩
    refine ⟨?_, ?_, fun hfresh => ?_, ?_⟩
    · rwa [MemCanonical, hframe.mem]
    · rwa [TlbReservedClear, hframe.tlb]
    · rw [hframe.causeFresh] at hfresh
      split_ifs at hfresh
      rw [hframe.violationCause]
      exact hcause hfresh
    · rwa [TracePortsLegal, hframe.trace]
  portWrite := by
    rintro a v s t hw ⟨hmem, htlb, hcause, htrace⟩
    rcases portWrite_done hw with ⟨_, rfl⟩ | ⟨_, _, _, rfl⟩ | ⟨_, _, rfl⟩ | ⟨_, _, _, _, _, rfl⟩
    · exact ⟨hmem, tlbReservedClear_tlbAfterOut htlb a v, hcause, htrace⟩
    all_goals exact ⟨hmem, htlb, hcause, htrace⟩
  halt := fun _ h => h

/-- A recorded cause is 01b or 10b (R224, R225). -/
theorem coreInv_recordDetails (e : Exc) {s : State} (h : CoreInv s) : CoreInv (recordDetails e s) := by
  obtain ⟨hmem, htlb, hcause, htrace⟩ := h
  cases e with
  | memVio a => exact ⟨hmem, htlb, fun _ => .inl rfl, htrace⟩
  | badAddr a => exact ⟨hmem, htlb, fun _ => .inr rfl, htrace⟩
  | tlbMiss | privilegeViolation | supervisorCall | undefinedInstruction | zeroDivide =>
    exact ⟨hmem, htlb, hcause, htrace⟩

theorem wf_trapState (slot : VectorSlot) (saved : Word) {s : State} (h : Memory.wf s.mem = true) :
    Memory.wf (trapState slot saved s).mem = true := by
  have hpushed : Memory.wf (trapPushed saved s).mem = true := by
    rw [trapPushed, writePhys_mem]
    exact wf_storeWord (s := (otherAgents s).setFlag s.flag.trapped) _ _ (wf_otherAgents h)
  have hframed : Memory.wf (trapFramed saved s).mem = true := by
    rw [trapFramed, writePhys_mem]
    exact wf_storeWord _ _ (wf_otherAgents hpushed)
  exact wf_otherAgents hframed

theorem coreInv_trapEntry {slot : VectorSlot} {saved : Word} {s t : State} (h : CoreInv s)
    (ht : trapEntry slot saved s = .next t) : CoreInv t := by
  obtain ⟨hmem, htlb, hcause, htrace⟩ := h
  obtain ⟨_, rfl⟩ := trapEntry_next.mp ht
  have hcontrol := trapState_control slot saved s
  simp only [SameControl] at hcontrol
  refine ⟨wf_trapState slot saved hmem, ?_, ?_, ?_⟩
  · rwa [TlbReservedClear, trapState_tlb]
  · simpa only [CauseIsOneOfTwo, hcontrol] using hcause
  · simpa only [TracePortsLegal, hcontrol] using htrace

theorem coreInv_of_within {r : Result} {t : State} (h : ResultWithin CoreInv CoreInv r) (ht : r = .next t) :
    CoreInv t := by
  rcases h t ht with hdone | ⟨e, pc0, advanced, s, hs, rfl⟩
  · exact hdone
  · exact coreInv_trapEntry (coreInv_recordDetails e hs) ht

/-- An instruction step: the fetches are reads, and the instruction's meaning keeps the invariant. -/
theorem runInstruction_within {s : State} (h : CoreInv s) : ResultWithin CoreInv CoreInv (runInstruction s) := by
  have hP := coreInv_updates
  refine resultWithin_complete (memReadWord_within hP.toKeptByReads h _ _) fun w1 s1 h1 => ?_
  have h1' := hP.otherAgents h1
  unfold runFetched
  split
  · rename_i e _
    cases e with
    | undefined => exact resultWithin_takeException h1'
    | nonCanonical | truncated => exact resultWithin_refused _
  · split_ifs
    · refine resultWithin_complete (memReadWord_within hP.toKeptByReads h1' _ _) fun w2 s2 h2 => ?_
      have h2' := hP.otherAgents h2
      exact exec_within hP h2' h2' hP.toKeptByReads _
    · exact exec_within hP h1' h1' hP.toKeptByReads _

theorem coreInv_devicesRun {s : State} (h : CoreInv s) : CoreInv (devicesRun s) := by
  obtain ⟨hmem, htlb, hcause, htrace⟩ := h
  refine ⟨?_, ?_, ?_, ?_⟩
  · rw [MemCanonical, devicesRun_mem]; exact wf_otherAgents hmem
  · rwa [TlbReservedClear, devicesRun_tlb]
  · rwa [CauseIsOneOfTwo, devicesRun_violationCauseFresh, devicesRun_violationCause]
  · rwa [TracePortsLegal, devicesRun_trace]

/-- The requests after the devices have run come from enabled sources, whatever was pending before (R241). -/
theorem pendingEnabled_devicesRun (s : State) : PendingEnabled (devicesRun s) := by
  intro src hsrc
  obtain ⟨time, _, hreq⟩ := devicesRun_requests s
  rw [hreq, Bool.and_eq_true] at hsrc
  exact hsrc.1

/-- Everything a step that goes on is: a trap entry for an interrupt or an instruction step, and then the devices. -/
theorem step_next {s t : State} (h : step s = .next t) : s.halted = false ∧ ∃ s1, t = devicesRun s1 ∧
    ((∃ src, interruptToTake s = some src ∧ trapEntry (.interrupt src) s.pc s = .next s1) ∨
      interruptToTake s = none ∧ runInstruction s = .next s1) := by
  unfold step boundaryStep at h
  split_ifs at h with hhalted
  obtain ⟨s1, hs1, rfl⟩ := thenDevices_next.mp h
  refine ⟨by simpa using hhalted, s1, rfl, ?_⟩
  cases hint : interruptToTake s with
  | some src => rw [hint] at hs1; exact .inl ⟨src, rfl, hs1⟩
  | none => rw [hint] at hs1; exact .inr ⟨rfl, hs1⟩

/-- Settles O57: the updates of an instruction, trap entry and the devices keep the clauses on memory, the TLB, the cause
and the trace, and the devices sample the requests anew. -/
theorem stepKeepsInvariant : Obligations.StepKeepsInvariant := by
  rintro s t ⟨hmem, htlb, hcause, htrace, _⟩ ht
  have hcore : CoreInv s := ⟨hmem, htlb, hcause, htrace⟩
  obtain ⟨_, s1, rfl, hs1⟩ := step_next ht
  have hcore1 : CoreInv s1 := by
    rcases hs1 with ⟨src, _, htrap⟩ | ⟨_, hrun⟩
    · exact coreInv_trapEntry hcore htrap
    · exact coreInv_of_within (runInstruction_within hcore) hrun
  obtain ⟨hmem', htlb', hcause', htrace'⟩ := coreInv_devicesRun hcore1
  exact ⟨hmem', htlb', hcause', htrace', pendingEnabled_devicesRun s1⟩

/-- Settles O58: a step ends with the devices, which sample the requests. -/
theorem onlyEnabledSourcesRequest : Obligations.OnlyEnabledSourcesRequest := by
  refine ⟨fun s t ht => ?_, fun d => ⟨rfl, rfl, rfl, rfl, rfl, rfl, rfl, rfl, rfl, rfl⟩⟩
  obtain ⟨_, s1, rfl, _⟩ := step_next ht
  exact ⟨pendingEnabled_devicesRun s1, devicesRun_requests s1⟩

/-! ## Reset (R38, R280) -/

/-- Settles O59: no byte, no TLB bit, no recorded cause, no trace entry and no request after reset. -/
theorem resetHasInvariant : Obligations.ResetHasInvariant := by
  refine ⟨wf_reset, by unfold TlbReservedClear; decide, ?_, ?_, ?_⟩
  · intro hfresh; cases hfresh
  · intro e he; cases he
  · intro src hsrc; cases src <;> cases hsrc

/-- Settles O60: the fields of the state after reset, and `resetEvent` as it is defined. -/
theorem resetValues : Obligations.ResetValues :=
  ⟨rfl, rfl, rfl, rfl, rfl, rfl, fun _ => ⟨rfl, rfl⟩⟩

end Sys2Proof.Machine
end

section
/-! PROOFS of the statements on the instruction step (R110, R243) and on the privilege check (R250, R251). -/

namespace Sys2Proof.Machine

/-! ## The privilege check -/

theorem privilegeFails_ofForm_input (rd : Reg) (p : Port) (s : State) :
    privilegeFails (Instr.ofForm (.input rd p)) s = ioBlocked s := by
  simp only [privilegeFails, form_ofForm]

theorem privilegeFails_ofForm_output (rd : Reg) (p : Port) (s : State) :
    privilegeFails (Instr.ofForm (.output rd p)) s = ioBlocked s := by
  simp only [privilegeFails, form_ofForm]

/-- The check looks at nothing but FLAG. -/
theorem privilegeFails_of_flag {s t : State} (h : t.flag = s.flag) (i : Instr) :
    privilegeFails i t = privilegeFails i s := by
  unfold privilegeFails ioBlocked; rw [h]

/-- The check is that of IN, OUT and HALT. -/
theorem form_of_privilegeFails {i : Instr} {s : State} (h : privilegeFails i s = true) :
    (∃ rd p, i.form = .input rd p ∧ ioBlocked s = true) ∨ (∃ rd p, i.form = .output rd p ∧ ioBlocked s = true) ∨
      i.form = .halt ∧ s.flag.p = false := by
  unfold privilegeFails at h
  split at h
  case h_1 rd p hf => exact .inl ⟨rd, p, hf, h⟩
  case h_2 rd p hf => exact .inr (.inl ⟨rd, p, hf, h⟩)
  case h_3 hf => exact .inr (.inr ⟨hf, by simpa using h⟩)
  all_goals cases h

theorem takeException_privilegeViolation (pc0 advanced : Word) (s : State) :
    takeException .privilegeViolation pc0 advanced s = trapEntry .privilegeViolation pc0 s := rfl

/-- An instruction whose check fails does nothing but trap, saving its own address. -/
theorem exec_of_privilegeFails {i : Instr} {s : State} (h : privilegeFails i s = true) :
    exec i s = trapEntry .privilegeViolation s.pc s := by
  rw [← ofForm_form i]
  rcases form_of_privilegeFails h with ⟨rd, p, hf, hio⟩ | ⟨rd, p, hf, hio⟩ | ⟨hf, hp⟩ <;> rw [hf]
  · rw [exec_input, execIn, if_pos hio, takeException_privilegeViolation]
  · rw [exec_output, execOut, if_pos hio, takeException_privilegeViolation]
  · show execHalt s = _
    rw [execHalt, hp, if_neg Bool.false_ne_true, takeException_privilegeViolation]

/-- Settles O48: the check is `ioBlocked` for IN and OUT and the mode for HALT, and each of the three makes it first. -/
theorem privilegeCheckGuardsInOutHalt : Obligations.PrivilegeCheckGuardsInOutHalt := by
  intro s
  have hblocked : ioBlocked s = true ↔ s.flag.p = false ∧ s.flag.i = false := by simp [ioBlocked]
  refine ⟨fun rd p => ⟨?input, ?output⟩, ?halt, fun i hi => ⟨exec_of_privilegeFails hi, ?only⟩⟩
  case input => rw [privilegeFails_ofForm_input]; exact hblocked
  case output => rw [privilegeFails_ofForm_output]; exact hblocked
  case halt => simp [privilegeFails, Instr.form]
  case only =>
    rw [← ofForm_form i]
    rcases form_of_privilegeFails hi with ⟨rd, p, hf, _⟩ | ⟨rd, p, hf, _⟩ | ⟨hf, _⟩ <;> rw [hf]
    · exact .inl ⟨rd, p, rfl⟩
    · exact .inr (.inl ⟨rd, p, rfl⟩)
    · exact .inr (.inr rfl)

/-! ## A step at a boundary (R243) -/

theorem step_of_halted {s : State} (h : s.halted = true) : step s = .fault .halted := by
  simp only [step, boundaryStep, h, if_true]

theorem step_of_interrupt {s : State} {src : IntSource} (hhalted : s.halted = false)
    (hint : interruptToTake s = some src) : step s = thenDevices (trapEntry (.interrupt src) s.pc s) := by
  simp only [step, boundaryStep, hhalted, hint, Bool.false_eq_true, if_false]

theorem step_of_no_interrupt {s : State} (hhalted : s.halted = false) (hint : interruptToTake s = none) :
    step s = thenDevices (runInstruction s) := by
  simp only [step, boundaryStep, hhalted, hint, Bool.false_eq_true, if_false]

/-- The interrupt to take is the first pending source in `INT_PRIORITY` (R244). -/
theorem interruptToTake_some {s : State} {src : IntSource} (h : interruptToTake s = some src) :
    s.pending.has src = true ∧ ∃ before after, allSources.map Config.intPriority = before ++ src :: after ∧
      ∀ x ∈ before, s.pending.has x = false := by
  unfold interruptToTake at h
  split_ifs at h
  obtain ⟨hpending, before, after, hlist, hbefore⟩ := List.find?_eq_some_iff_append.mp h
  exact ⟨hpending, before, after, hlist, fun x hx => by simpa using hbefore x hx⟩

/-- Settles O8: the interrupt to take is found in the order of `INT_PRIORITY`, and there is one exactly where E = 1 and a
source is pending. -/
theorem interruptIsAcceptedAtTheBoundary : Obligations.InterruptIsAcceptedAtTheBoundary := by
  intro s hhalted
  refine ⟨fun src0 he hsrc0 => ?_, fun hnone => step_of_no_interrupt hhalted (interruptToTake_none.mpr hnone)⟩
  cases hint : interruptToTake s with
  | none =>
    rcases interruptToTake_none.mp hint with he' | hnone
    · rw [he] at he'; cases he'
    · rw [hnone src0] at hsrc0; cases hsrc0
  | some src =>
    obtain ⟨hsrc, before, after, hlist, hbefore⟩ := interruptToTake_some hint
    exact ⟨src, before, after, hlist, hsrc, hbefore, step_of_interrupt hhalted hint⟩

/-! ## An instruction step (R110) -/

section
variable {s s0 : State} {w1 : Word}

theorem runInstruction_of_fetch (h : memReadWord .execute s.pc s = .done w1 s0) :
    runInstruction s = runFetched w1 s.pc (otherAgents s0) := by
  rw [runInstruction, h, complete_done]

variable {build : Word → Instr} (hdec : decodeFirst w1 = .ok build) (pc0 : Word)
include hdec

theorem runFetched_one_word (h : (hasSecondWord w1 && !privilegeFails (build 0) s) = false) :
    runFetched w1 pc0 s = exec (build 0) s := by
  simp only [runFetched, hdec, h, Bool.false_eq_true, if_false]

theorem runFetched_two_words (h2 : hasSecondWord w1 = true) (hpriv : privilegeFails (build 0) s = false) :
    runFetched w1 pc0 s = complete (memReadWord .execute (pc0 + 2) s) pc0 (pc0 + 2) fun w2 s2 =>
      exec (build w2) (otherAgents s2) := by
  simp only [runFetched, hdec, h2, hpriv, Bool.not_false, Bool.and_self, if_true]

end

theorem runFetched_undecoded {w1 : Word} {e : DecodeError} (hdec : decodeFirst w1 = .error e) (pc0 : Word) (s : State) :
    runFetched w1 pc0 s = runUndecoded e w1 pc0 s := by
  simp only [runFetched, hdec]

/-- A fetch leaves the PC and FLAG. -/
theorem memReadWord_done_pc {kind : AccessKind} {addr v : Word} {s s1 : State} (h : memReadWord kind addr s = .done v s1) :
    s1.pc = s.pc := by
  rw [(memReadWord_marks (.inl ⟨v, h⟩)).1, setTlb_pc]

/-- What the devices do between two steps, in the frame of a state. -/
theorem sameControl_devicesRun (s : State) :
    SameControl s (((devicesRun s).setDev s.dev).setPending s.pending) := by
  simp [SameControl]

theorem devicesRun_requests_before (s : State) : ∃ time, (devicesRun s).draws = time + 1 ∧
    ∀ src, (devicesRun s).pending.has src = (sourceEnabled s.dev src && Config.deviceRequests s.trace time src) := by
  obtain ⟨time, hdraws, hreq⟩ := devicesRun_requests s
  exact ⟨time, hdraws, fun src => by rw [hreq, devicesRun_dev, devicesRun_trace, sourceEnabled_timersRun]⟩

theorem sameMemory_devicesRun {s : State} (h : s.dev.sdBuffers = []) : SameMemory s (devicesRun s) := fun a =>
  sameMemoryBut_devicesRun s a (by rw [agentCells_of_idle h]; exact List.not_mem_nil)

/-- Settles O5: the three ways an instruction step goes on after its first fetch, and the frames of other agents and of the
devices. -/
theorem stepRunsDecodedInstruction : Obligations.StepRunsDecodedInstruction := by
  refine ⟨?instruction, fun s => ⟨otherAgents_of_idle, ?agents, rfl, ?devices⟩, fun _ => rfl, fun _ => rfl⟩
  case instruction =>
    intro s s0 w1 build hhalted hint hfetch hdec
    dsimp only
    have hpc : (otherAgents s0).pc = s.pc := by rw [otherAgents_pc, memReadWord_done_pc hfetch]
    rw [step_of_no_interrupt hhalted hint, runInstruction_of_fetch hfetch]
    refine ⟨fun h1 => ?_, fun w2 s2 h2 hpriv hfetch2 => ?_, fun hpriv => ?_⟩
    · rw [runFetched_one_word hdec _ (by rw [h1, Bool.false_and])]
    · rw [runFetched_two_words hdec _ h2 hpriv, hfetch2, complete_done]
    · rw [runFetched_one_word hdec _ (by rw [hpriv, Bool.not_true, Bool.and_false]), exec_of_privilegeFails hpriv, hpc]
  case agents =>
    exact ⟨sameRegs_otherAgents s, otherAgents_flag s, otherAgents_pc s, otherAgents_tlb s, sameControl_otherAgents s,
      sameMemoryBut_otherAgents s⟩
  case devices =>
    exact ⟨fun r _ => devicesRun_readPhys s r, devicesRun_flag s, devicesRun_pc s, devicesRun_tlb s,
      sameControl_devicesRun s, devicesRun_requests_before s, ⟨_, _, _, _, devicesRun_dev s⟩, sameMemoryBut_devicesRun s,
      sameMemory_devicesRun⟩

/-- Settles O6: what a first word without an instruction does. -/
theorem undecodedWordTrapsOrIsRefused : Obligations.UndecodedWordTrapsOrIsRefused := by
  intro s s1 w hhalted hint hfetch
  rw [step_of_no_interrupt hhalted hint, runInstruction_of_fetch hfetch]
  refine ⟨fun hdec => ?_, fun hdec => ?_⟩ <;> rw [runFetched_undecoded hdec] <;> rfl

/-! ## A fetch that fails (R53, R69, R236) -/

/-- Before any fetch has advanced the PC the two addresses that could be saved are the same. -/
theorem savedPc_self (e : Exc) (pc0 : Word) : savedPc e pc0 pc0 = pc0 := by
  cases e <;> simp [savedPc]

/-- A word access raises a memory violation or a TLB miss, whose saved PC is what `EXC_SAVED_PC` says. -/
theorem savedPc_of_memReadWord_raised {kind : AccessKind} {addr : Word} {s s1 : State} {e : Exc}
    (h : memReadWord kind addr s = .raised e s1) (pc0 advanced : Word) :
    savedPc e pc0 advanced = if Config.excSavesOwnPc (excSlot e) then pc0 else advanced := by
  rcases memReadWord_raised.mp h with ⟨_, rfl, _⟩ | ⟨_, htr⟩
  · rfl
  · rcases (translate_raised htr).2.2 with rfl | rfl <;> rfl

/-- Settles O7: the first fetch raises or is refused before the PC advances, the second after it has. -/
theorem fetchAtOddPcTraps : Obligations.FetchAtOddPcTraps := by
  intro s hhalted hint
  have hraised (e : Exc) (s0 : State) (hfetch : memReadWord .execute s.pc s = .raised e s0) :
      step s = thenDevices (trapEntry (excSlot e) s.pc (recordDetails e s)) := by
    rw [step_of_no_interrupt hhalted hint, runInstruction, hfetch, complete_raised, takeException, savedPc_self,
      memReadWord_raised_state hfetch]
  refine ⟨fun hodd => ?odd, hraised, fun x hx => ?refused, fun w1 s0 build hfetch hdec h2 hpriv => ?second⟩
  case odd => exact hraised (.badAddr s.pc) s (memReadWord_raised.mpr (.inl ⟨hodd, rfl, rfl⟩))
  case refused => rw [step_of_no_interrupt hhalted hint, runInstruction, hx, complete_refused]; rfl
  case second =>
    have hpriv' : privilegeFails (build 0) (otherAgents s0) = false :=
      (privilegeFails_of_flag (otherAgents_flag s0) _).trans hpriv
    rw [step_of_no_interrupt hhalted hint, runInstruction_of_fetch hfetch, runFetched_two_words hdec _ h2 hpriv']
    refine ⟨fun e s2 he => ?_, fun x hx => ?_⟩
    · rw [he, complete_raised, takeException, savedPc_of_memReadWord_raised he, memReadWord_raised_state he]
    · rw [hx, complete_refused]; rfl

/-! ## HALT (R212) -/

/-- Settles O49: HALT in privileged mode, and a step of a halted state. -/
theorem haltStopsTheCpu : Obligations.HaltStopsTheCpu := by
  intro s
  refine ⟨fun hp => ?_, step_of_halted⟩
  show execHalt s = _
  rw [execHalt, if_pos hp]

/-! ## The saved PC (R236) -/

/-- Settles O54: `savedPc` exception by exception. -/
theorem savedPcOfEachException : Obligations.SavedPcOfEachException := by
  intro pc0 advanced a page
  refine ⟨rfl, rfl, fun e he => ?_⟩
  simp only [List.mem_cons, List.not_mem_nil, or_false] at he
  rcases he with rfl | rfl | rfl | rfl | rfl <;> rfl

end Sys2Proof.Machine
end

section
/-! PROOFS of the statements of 20_memory.md: bytes and words, translation, the IPL ROM. -/

namespace Sys2Proof.Machine

/-! ## Words and bytes (R50, R52) -/

/-- Settles O9: the byte read after a word store, at the two bytes and elsewhere. -/
theorem storedWordIsBigEndian : Obligations.StoredWordIsBigEndian := by
  intro s pa v he hr
  refine ⟨?_, ?_, physWord_storeWord s pa v he hr, sameMemoryBut_storeWord s pa v⟩
  · rw [physByte_storeWord s pa pa v he hr, if_neg (succ_ne pa).symm, if_pos rfl]
  · rw [physByte_storeWord s pa (pa + 1) v he hr, if_pos rfl]

/-- A stored byte reads back where no ROM covers it. -/
theorem physByte_storeByte_same {s : State} {pa : Word} (hr : s.romShown pa = false) (b : Byte) :
    (s.storeByte pa b).physByte pa = b := by
  rw [physByte_storeByte, if_pos ⟨rfl, hr⟩]

/-- Settles O10: what the byte accesses answer where the address translates. -/
theorem byteAccessIsZeroExtendedAndLocal : Obligations.ByteAccessIsZeroExtendedAndLocal := by
  intro s s1 addr pa v
  refine ⟨fun ht => ⟨_, memReadByte_done.mpr ⟨pa, ht, rfl⟩, ?_⟩, fun ht hr =>
    ⟨_, memWriteByte_done.mpr ⟨pa, s1, ht, hr, rfl⟩, physByte_storeByte_same hr _, sameMemoryBut_storeByte s1 pa _⟩⟩
  rw [BitVec.toNat_setWidth]
  have := (s1.physByte pa).isLt
  omega

/-! ## Odd addresses (R53) -/

theorem vectorAddress_even (slot : VectorSlot) : (vectorAddress slot).getLsbD 0 = false := by
  rw [even_iff, vectorAddress_toNat]; omega

/-- A translation raises TlbMiss or memVio, never badAddr. -/
theorem translate_ne_badAddr (addr : Word) (kind : AccessKind) (s : State) (a : Word) (t : State) :
    translate addr kind s ≠ .raised (.badAddr a) t := by
  intro h
  rcases (translate_raised h).2.2 with he | he <;> cases he

/-- Settles O11: the parity is looked at before the translation, and by the word accesses only. -/
theorem oddWordAccessRaisesBadAddr : Obligations.OddWordAccessRaisesBadAddr := by
  intro s addr v
  refine ⟨fun hodd => ⟨fun kind => ?read, ?write, rfl, rfl, rfl, rfl, recordDetails_records _ s, rfl⟩,
    fun hodd => ⟨?push, ?pop⟩, vectorAddress_even, fun a t => ⟨?readByte, ?writeByte⟩⟩
  case read => exact memReadWord_raised.mpr (.inl ⟨hodd, rfl, rfl⟩)
  case write => exact memWriteWord_raised.mpr (.inl ⟨hodd, rfl, rfl⟩)
  case push => exact push_raised.mpr (memWriteWord_raised.mpr (.inl ⟨odd_sub_two hodd, rfl, rfl⟩))
  case pop => exact pop_raised.mpr (memReadWord_raised.mpr (.inl ⟨hodd, rfl, rfl⟩))
  case readByte => exact fun h => translate_ne_badAddr _ _ _ _ _ (memReadByte_raised.mp h)
  case writeByte => exact fun h => translate_ne_badAddr _ _ _ _ _ (memWriteByte_raised.mp h)

/-! ## Translation (R68, R69) -/

theorem translates_iff (s : State) : s.translates = true ↔ s.mmuEnabled = true ∧ s.flag.p = false := by
  simp [State.translates]

/-- Settles O12: translation is looked up only where the MMU is on in user mode. -/
theorem translationIsIdentityOutsideUserMmu : Obligations.TranslationIsIdentityOutsideUserMmu := by
  intro s addr kind h
  exact translate_of_not_translates (by simpa using (translates_iff s).not.mpr h) addr kind

section
variable {s : State} {addr : Word} (kind : AccessKind) (h : s.translates = true)
include h

theorem translate_of_no_match (hm : tlbMatches s.tlb (hiByte addr) = []) :
    translate addr kind s = .raised (.tlbMiss (hiByte addr)) s := by
  simp only [translate, h, hm, if_true]

theorem translate_of_two_matches {j k : Fin 8} {l : List (Fin 8)} (hm : tlbMatches s.tlb (hiByte addr) = j :: k :: l) :
    translate addr kind s = .refused .tlbConflict := by
  simp only [translate, h, hm, if_true]

theorem translate_of_match {k : Fin 8} (hm : tlbMatches s.tlb (hiByte addr) = [k]) : translate addr kind s =
    if tlbAllows (tlbGet s.tlb k) kind then
      .done (wordOfBytes (tlbFrame (tlbGet s.tlb k)) (loByte addr)) (s.setTlb (tlbSet s.tlb k (tlbMark (tlbGet s.tlb k) kind)))
    else .raised (.memVio addr) s := by
  simp only [translate, h, hm, if_true]

end

theorem nil_of_no_mem {l : List (Fin 8)} (h : ∀ k, k ∉ l) : l = [] := List.eq_nil_iff_forall_not_mem.mpr h

/-- A list with two members has two heads. -/
theorem two_heads_of_mem {l : List (Fin 8)} {j k : Fin 8} (hjk : j ≠ k) (hj : j ∈ l) (hk : k ∈ l) :
    ∃ x y m, l = x :: y :: m := by
  match l with
  | [] => cases hj
  | [x] => exact absurd ((List.mem_singleton.mp hj).trans (List.mem_singleton.mp hk).symm) hjk
  | x :: y :: m => exact ⟨x, y, m, rfl⟩

/-- A list without repetition and with one member. -/
theorem eq_singleton_of_mem {l : List (Fin 8)} {k : Fin 8} (hl : l.Nodup) (hk : k ∈ l) (honly : ∀ j, j ≠ k → j ∉ l) :
    l = [k] := by
  have hall : ∀ j ∈ l, j = k := fun j hj => by_contra fun hne => honly j hne hj
  match l with
  | [] => cases hk
  | [x] => rw [hall x (List.mem_singleton_self x)]
  | x :: y :: m =>
    have hx := hall x (by simp)
    have hy := hall y (by simp)
    rw [List.nodup_cons, hx, hy] at hl
    exact absurd (List.mem_cons_self ..) hl.1

/-- Settles O13: the valid entries for the page are the members of `tlbMatches`: none, two or one. -/
theorem translationByTheTlb : Obligations.TranslationByTheTlb := by
  intro s addr kind hmmu hp hit need
  have htr : s.translates = true := (translates_iff s).mpr ⟨hmmu, hp⟩
  have hmem (k : Fin 8) : k ∈ tlbMatches s.tlb (hiByte addr) ↔ hit k := tlbMatches_mem _ _ k
  have hneed (e : BitVec 24) : tlbAllows e kind = e.getLsbD need := by cases kind <;> rfl
  refine ⟨fun hnone => ?miss, fun j k hjk hj hk => ?conflict, fun k hk honly => ?one⟩
  case miss =>
    have hnil := nil_of_no_mem fun k hk => hnone k ((hmem k).mp hk)
    exact ⟨translate_of_no_match kind htr hnil, rfl, rfl, recordDetails_records _ s, rfl⟩
  case conflict =>
    obtain ⟨x, y, m, hl⟩ := two_heads_of_mem hjk ((hmem j).mpr hj) ((hmem k).mpr hk)
    exact translate_of_two_matches kind htr hl
  case one =>
    have hl := eq_singleton_of_mem (tlbMatches_nodup _ _) ((hmem k).mpr hk) fun j hj hj' => honly j hj ((hmem j).mp hj')
    rw [translate_of_match kind htr hl, hneed]
    refine ⟨fun hno => ⟨?_, rfl, rfl, rfl, rfl, recordDetails_records _ s, rfl⟩, fun hyes =>
      ⟨tlbSet s.tlb k (tlbMark (tlbGet s.tlb k) kind), ?_, ?_, fun j hj => ?_⟩⟩
    · rw [hno, if_neg Bool.false_ne_true]
    · rw [hyes, if_pos rfl]; rfl
    · rw [tlbGet_tlbSet, if_pos rfl, tlbMark_eq]
    · rw [tlbGet_tlbSet, if_neg hj]

/-! ## The IPL ROM (R55, R58) -/

theorem romShown_iff (s : State) (pa : Word) :
    s.romShown pa = true ↔ s.iplDetached = false ∧ 0xE000 ≤ pa.toNat ∧ pa.toNat < 0xFFE0 := by
  simp [State.romShown, inIplRange]

/-- Settles O14: a byte is the ROM's exactly where `romShown` says. -/
theorem iplRomCoversItsRange : Obligations.IplRomCoversItsRange := by
  intro s pa v
  refine ⟨fun hattached hlow hhigh => ?rom, fun houtside => ?ram⟩
  case rom =>
    have hrom : s.romShown pa = true := (romShown_iff s pa).mpr ⟨hattached, hlow, hhigh⟩
    refine ⟨by rw [State.physByte, if_pos hrom], fun htr => ?_⟩
    have hpa := translate_of_not_translates htr pa .write
    exact ⟨memWriteByte_refused.mpr (.inr ⟨rfl, pa, s, hpa, hrom⟩),
      fun he => memWriteWord_refused.mpr ⟨he, .inr ⟨rfl, pa, s, hpa, hrom⟩⟩⟩
  case ram =>
    have hram : s.romShown pa = false := by
      rw [← Bool.not_eq_true, romShown_iff]
      rintro ⟨hattached, hlow, hhigh⟩
      rw [hattached] at houtside
      simp only [Bool.false_eq_true, false_or] at houtside
      omega
    exact ⟨by rw [State.physByte, hram, if_neg Bool.false_ne_true], physByte_storeByte_same hram _⟩

end Sys2Proof.Machine
end

section
/-! PROOFS of the statements of 40_operands.md: operand values and the register operands. -/

namespace Sys2Proof.Machine

/-! ## Operand values (R111) -/

/-- A translation changes no byte of memory. -/
theorem translate_done_physByte {addr pa : Word} {kind : AccessKind} {s s1 : State}
    (h : translate addr kind s = .done pa s1) (a : Word) : s1.physByte a = s.physByte a := by
  rw [(translate_done h).1, setTlb_physByte]

theorem translate_done_physWord {addr pa : Word} {kind : AccessKind} {s s1 : State}
    (h : translate addr kind s = .done pa s1) (a : Word) : s1.physWord a = s.physWord a := by
  rw [(translate_done h).1, setTlb_physWord]

/-- What a word read of the memory as it is in `s` answers (R53, R54, R68, R69). -/
def ReadsWord (s : State) (kind : AccessKind) (a : Word) (x : Access Word) : Prop :=
  (a.getLsbD 0 = true → x = .raised (.badAddr a) s) ∧
  (a.getLsbD 0 = false →
    (s.translates = false → x = .done (s.physWord a) s) ∧
    (∀ pa s1, translate a kind s = .done pa s1 → x = .done (s.physWord pa) s1) ∧
    (∀ e s1, translate a kind s = .raised e s1 → x = .raised e s1) ∧
    (∀ r, translate a kind s = .refused r → x = .refused r))

theorem readsWord_memReadWord (s : State) (kind : AccessKind) (a : Word) : ReadsWord s kind a (memReadWord kind a s) := by
  have hdone (he : a.getLsbD 0 = false) (pa : Word) (s1 : State) (ht : translate a kind s = .done pa s1) :
      memReadWord kind a s = .done (s.physWord pa) s1 :=
    memReadWord_done.mpr ⟨he, pa, ht, (translate_done_physWord ht pa).symm⟩
  exact ⟨fun hodd => memReadWord_raised.mpr (.inl ⟨hodd, rfl, rfl⟩), fun he =>
    ⟨fun htr => hdone he a s (translate_of_not_translates htr a kind), hdone he,
      fun e s1 ht => memReadWord_raised.mpr (.inr ⟨he, ht⟩), fun r ht => memReadWord_refused.mpr ⟨he, ht⟩⟩⟩

/-- Settles O15: each memory mode is a word or byte read at its address. -/
theorem operandValueOfEachMode : Obligations.OperandValueOfEachMode := by
  intro s word dsp r d
  have hword (kind : AccessKind) (a : Word) : word kind a (memReadWord kind a s) := readsWord_memReadWord s kind a
  have hbyte (pa : Word) (s1 : State) (ht : translate (s.readReg r) .read s = .done pa s1) :
      readOperand (.bIndr r) s = .done ((s.physByte pa).setWidth 16) s1 :=
    memReadByte_done.mpr ⟨pa, ht, by rw [translate_done_physByte ht]⟩
  refine ⟨hword _ _, hword _ _, rfl, hword _ _, rfl, rfl, hword _ _, ⟨fun htr => ?_, hbyte, fun e s1 ht => ?_,
    fun x ht => ?_⟩, hword _ _⟩
  · exact hbyte _ s (translate_of_not_translates htr _ _)
  · exact memReadByte_raised.mpr ht
  · exact memReadByte_refused.mpr ht

/-- Settles O16: an operand is read by at most one word or byte read. -/
theorem readingAnOperandOnlyMarksTheTlb : Obligations.ReadingAnOperandOnlyMarksTheTlb := by
  intro o s s1 h
  cases o with
  | drct | index | fpRlt | indr => exact memReadWord_marks h
  | bIndr => exact memReadByte_marks h
  | imm | reg | imm4 =>
    rcases h with ⟨v, h⟩ | ⟨e, h⟩ <;> cases h
    exact ⟨rfl, OnlyTlbMarks.refl _ _⟩

/-! ## The register operands (R23 to R25) -/

theorem toWord_high_byte (f : Flag) : f.toWord.extractLsb' 8 8 = 0 := by
  apply BitVec.eq_of_getLsbD_eq
  intro i hi
  rw [BitVec.getLsbD_extractLsb', toWord_getLsbD f (show 8 + i < 16 by omega), decide_eq_true hi, Bool.true_and]
  interval_cases i <;> rfl

/-- Settles O17: each register number by `physOf`, and FLAG's bits. -/
theorem registerNumbersReadAsTabled : Obligations.RegisterNumbersReadAsTabled := by
  intro s
  refine ⟨⟨rfl, rfl, rfl, rfl, rfl, rfl, rfl, rfl, rfl, rfl, rfl, rfl, rfl⟩, sp_eq s, rfl, ?_⟩
  have hbit (k : Nat) (hk : k < 16) : (s.readReg .flag).getLsbD k = flagBit s.flag k := toWord_getLsbD s.flag hk
  exact ⟨toWord_high_byte s.flag, hbit 7 (by decide), hbit 6 (by decide), hbit 5 (by decide), hbit 4 (by decide),
    hbit 3 (by decide), hbit 2 (by decide), hbit 1 (by decide), hbit 0 (by decide)⟩

/-- FLAG after a load, as a word: the whole low byte in privileged mode, bits 4 to 0 in user mode (R24). -/
theorem load_toWord (f : Flag) (v : Word) :
    (f.p = true → (f.load v).toWord = v &&& 0x00FF) ∧
    (f.p = false → (f.load v).toWord = (f.toWord &&& 0x00E0) ||| (v &&& 0x001F)) := by
  refine ⟨fun hp => ?_, fun hp => ?_⟩ <;> apply BitVec.eq_of_getLsbD_eq <;> intro i hi
  · rw [toWord_getLsbD _ hi, BitVec.getLsbD_and]
    interval_cases i <;> simp [flagBit, Flag.load, hp, Flag.ofWord]
  · rw [toWord_getLsbD _ hi, BitVec.getLsbD_or, BitVec.getLsbD_and, BitVec.getLsbD_and, toWord_getLsbD _ hi]
    interval_cases i <;> simp [flagBit, Flag.load, hp]

/-- Settles O18: each register number by `physOf`, and FLAG's load in either mode. -/
theorem registerNumbersWriteAsTabled : Obligations.RegisterNumbersWriteAsTabled := by
  intro s v
  refine ⟨⟨rfl, rfl, rfl, rfl, rfl, rfl, rfl, rfl, rfl, rfl, rfl, rfl, rfl⟩, ?_, rfl,
    s.flag.load v, rfl, load_toWord s.flag v⟩
  unfold State.writeReg
  rw [physOf_sp]
  cases s.flag.p <;> rfl

end Sys2Proof.Machine
end

section
/-! PROOFS of the statements of 41_no_ld_st.md: LD and ST. -/

namespace Sys2Proof.Machine

/-- The state after an operand has been read is the one before with TLB marks. -/
theorem readOperand_done_state {o : Operand} {s s1 : State} {v : Word} (h : readOperand o s = .done v s1) :
    s1 = s.setTlb s1.tlb := (readingAnOperandOnlyMarksTheTlb o s s1 (.inl ⟨v, h⟩)).1

/-- Settles O20: the operand value is written to Rd in the state the operand read leaves. -/
theorem loadWritesTheOperand : Obligations.LoadWritesTheOperand := by
  intro rd o s s1 v ho
  obtain ⟨u, rfl⟩ : ∃ u, s1 = s.setTlb u := ⟨_, readOperand_done_state ho⟩
  refine ⟨((s.setTlb u).writeReg rd v).setPc (s.pc + operandSize o), ?_, rfl,
    wroteReg_writeReg (setTlb_flag s u) (setTlb_readPhys s u) _, fun a => ?_, ?_, ?_⟩
  · rw [exec_ld, execLd, ho, complete_done]
  · rw [setPc_physByte, writeReg_physByte, setTlb_physByte]
  · simp [SameControl]
  · rw [setPc_tlb, writeReg_tlb]

/-- What a word store through a translation leaves: the word at the translated address, and everything else as before but
the TLB's marks. -/
theorem storeWord_frame {addr pa : Word} {s s1 : State} (v : Word) (he : addr.getLsbD 0 = false)
    (ht : translate addr .write s = .done pa s1) (hr : s1.romShown pa = false) :
    (s1.storeWord pa v).physByte pa = hiByte v ∧ (s1.storeWord pa v).physByte (pa + 1) = loByte v ∧
    (s1.storeWord pa v).physWord pa = v ∧ SameMemoryBut [pa, pa + 1] s (s1.storeWord pa v) ∧
    SameRegsBut [] s (s1.storeWord pa v) ∧ (s1.storeWord pa v).flag = s.flag ∧ (s1.storeWord pa v).pc = s.pc ∧
    SameControl s (s1.storeWord pa v) ∧ (s1.storeWord pa v).tlb = s1.tlb := by
  have hpa : pa.getLsbD 0 = false := (translate_even ht).trans he
  obtain ⟨hhi, hlo, hword, hmem⟩ := storedWordIsBigEndian s1 pa v hpa hr
  obtain ⟨u, rfl⟩ : ∃ u, s1 = s.setTlb u := ⟨_, (translate_done ht).1⟩
  refine ⟨hhi, hlo, hword, fun a ha => ?_, fun r _ => ?_, rfl, rfl,
    (sameControl_setTlb s u).trans (sameControl_storeWord _ _ _), rfl⟩
  · rw [hmem a ha, setTlb_physByte]
  · rw [storeWord_readPhys, setTlb_readPhys]

theorem writePlace_word {p : Place} (h : placeIsByte p = false) (v : Word) (s : State) :
    writePlace p v s = memWriteWord (placeAddress p s) v s := by
  cases p with
  | drct | index | fpRlt | indr => rfl
  | bIndr => cases h

/-- Settles O21: a word mode of ST is a word write at the place's address. -/
theorem storeWritesTheWord : Obligations.StoreWritesTheWord := by
  intro rd p s s1 pa hp he ht hr
  obtain ⟨hhi, hlo, _, hmem, hregs, hflag, _, hcontrol, htlb⟩ := storeWord_frame (s.readReg rd) he ht hr
  refine ⟨(s1.storeWord pa (s.readReg rd)).setPc (s.pc + placeSize p), ?_, rfl, hhi, hlo, hmem, fun r hr => ?_, hflag,
    hcontrol, htlb⟩
  · rw [exec_st, execSt, writePlace_word hp, memWriteWord_done.mpr ⟨he, pa, s1, ht, hr, rfl⟩, complete_done]
  · rw [setPc_readPhys]; exact hregs r hr

/-- Settles O22: mode B Indr of ST is a byte write at the register's contents. -/
theorem byteStoreWritesOneByte : Obligations.ByteStoreWritesOneByte := by
  intro rd rx s s1 pa ht hr
  obtain ⟨u, rfl⟩ : ∃ u, s1 = s.setTlb u := ⟨_, (translate_done ht).1⟩
  have hdone := memWriteByte_done (v := s.readReg rd) |>.mpr ⟨pa, _, ht, hr, rfl⟩
  refine ⟨((s.setTlb u).storeByte pa (loByte (s.readReg rd))).setPc (s.pc + 2), ?_, rfl, physByte_storeByte_same hr _,
    fun a ha => ?_, fun r _ => ?_, rfl, (sameControl_setTlb s u).trans (sameControl_storeByte _ pa (loByte (s.readReg rd))),
    rfl⟩
  · show execSt rd (.bIndr rx) s = _
    rw [execSt]
    show complete (memWriteByte (s.readReg rx) (s.readReg rd) s) _ _ _ = _
    rw [hdone, complete_done]
    rfl
  · rw [setPc_physByte, sameMemoryBut_storeByte _ _ _ a ha, setTlb_physByte]
  · rw [setPc_readPhys, storeByte_readPhys, setTlb_readPhys]

end Sys2Proof.Machine
end

section
/-! PROOFS of the statements of 42_arith_logic.md and 43_shift.md. -/

namespace Sys2Proof.Machine

/-! ## A committed result (R112, R140) -/

/-- `t` is `s` after a flag-changing instruction with result `x` written to `rd`, its operand read leaving the TLB `u`. -/
structure CommitsTo (rd : Reg) (o : Operand) (x : Computed) (u : Vector (BitVec 24) 8) (s t : State) : Prop where
  pc : t.pc = s.pc + operandSize o
  result : t.readPhys (physOf rd s.flag.p) = x.r
  carry : t.flag.c = x.c
  overflow : t.flag.v = x.v
  frame : FlagChangeFrame [physOf rd s.flag.p] x.r u s t

section
variable {rd : Reg} {o : Operand} {s s1 : State} {b : Word} (hrd : rd ≠ .flag) (ho : readOperand o s = .done b s1)
include hrd ho

theorem commitsTo_commitResult (x : Computed) : CommitsTo rd o x s1.tlb s (commitResult rd x (s.pc + operandSize o) s1) := by
  have hs1 := readOperand_done_state ho
  have hflag : s1.flag = s.flag := by rw [hs1, setTlb_flag]
  refine ⟨rfl, ?_, ?_, ?_, commitResult_frame hrd x _ s1.tlb hs1⟩
  · rw [commitResult_readPhys hrd, hflag, if_pos rfl]
  · rw [commitResult_flag hrd]; rfl
  · rw [commitResult_flag hrd]; rfl

theorem execBinary_commits (f : Word → Word → Nat → Computed) :
    ∃ t, execBinary f rd o s = .next t ∧ CommitsTo rd o (f (s.readReg rd) b s.draws) s1.tlb s t :=
  ⟨_, execBinary_done hrd ho, commitsTo_commitResult hrd ho _⟩

theorem execDivision_commits (f : Word → Word → Nat → Computed) (hb : b ≠ 0) :
    ∃ t, execDivision f rd o s = .next t ∧ CommitsTo rd o (f (s.readReg rd) b s.draws) s1.tlb s t :=
  ⟨_, execDivision_done hrd ho hb, commitsTo_commitResult hrd ho _⟩

end

/-! ## ADD, SUB, CMP (R142, R143) -/

theorem addCarry_iff (a b : Word) : addCarry a b = true ↔ 65536 ≤ a.toNat + b.toNat := decide_eq_true_iff

theorem subBorrow_iff (a b : Word) : subBorrow a b = true ↔ a.toNat < b.toNat := decide_eq_true_iff

theorem addOverflow_eq_saddOverflow (a b : Word) : addOverflow a b = BitVec.saddOverflow a b := by
  rw [BitVec.saddOverflow_eq]
  simp only [addOverflow, BitVec.msb_eq_getLsbD_last]
  rfl

/-- V of ADD: the sum of the two values is outside the range of a word. -/
theorem addOverflow_iff (a b : Word) :
    addOverflow a b = true ↔ a.toInt + b.toInt < -32768 ∨ 32767 < a.toInt + b.toInt := by
  rw [addOverflow_eq_saddOverflow, BitVec.saddOverflow, Bool.or_eq_true, decide_eq_true_iff, decide_eq_true_iff]
  norm_num
  omega

/-- V of SUB and CMP: the difference of the two values is. -/
theorem subOverflow_iff (a b : Word) :
    subOverflow a b = true ↔ a.toInt - b.toInt < -32768 ∨ 32767 < a.toInt - b.toInt := by
  rw [subOverflow_eq_ssubOverflow, BitVec.ssubOverflow, Bool.or_eq_true, decide_eq_true_iff, decide_eq_true_iff]
  norm_num
  omega

/-- Settles O23: the committed result is `computeAdd`'s. -/
theorem addWritesSumAndFlags : Obligations.AddWritesSumAndFlags := by
  intro rd o s s1 b hrd ho a
  obtain ⟨t, ht, hpc, hresult, hc, hv, hframe⟩ := execBinary_commits hrd ho computeAdd
  refine ⟨t, (exec_add rd o s).trans ht, hpc, ?_, ?_, ?_, hframe⟩
  · rw [hresult]; exact BitVec.toNat_add a b
  · rw [hc]; exact addCarry_iff a b
  · rw [hv]; exact addOverflow_iff a b

/-- Settles O24: the committed result is `computeSub`'s. -/
theorem subWritesDifferenceAndFlags : Obligations.SubWritesDifferenceAndFlags := by
  intro rd o s s1 b hrd ho a
  obtain ⟨t, ht, hpc, hresult, hc, hv, hframe⟩ := execBinary_commits hrd ho computeSub
  refine ⟨t, (exec_sub rd o s).trans ht, hpc, hresult, ?_, ?_, hframe⟩
  · rw [hc]; exact subBorrow_iff a b
  · rw [hv]; exact subOverflow_iff a b

/-- Settles O25: the committed flags are those of `computeSub`. -/
theorem cmpSetsSubFlagsOnly : Obligations.CmpSetsSubFlagsOnly := by
  intro rd o s s1 b ho a
  exact ⟨_, (exec_cmp rd o s).trans (execCmp_done ho), rfl, subBorrow_iff a b, subOverflow_iff a b,
    commitFlags_frame _ _ s1.tlb (readOperand_done_state ho)⟩

/-! ## AND, OR, XOR, ADDS, MUL (R148 to R152) -/

/-- The five operations whose C and V are not valid. -/
theorem exec_drawnFlags {op : ArithOp} {rd : Reg} {o : Operand} {s s1 : State} {b r : Word} (hrd : rd ≠ .flag)
    (ho : readOperand o s = .done b s1)
    (hexec : exec (Instr.ofForm (.arith op rd o)) s = execBinary (arithCompute op) rd o s)
    (hr : (arithCompute op (s.readReg rd) b s.draws).r = r) :
    ∃ t, exec (Instr.ofForm (.arith op rd o)) s = .next t ∧ t.pc = s.pc + operandSize o ∧
      t.readPhys (physOf rd s.flag.p) = r ∧ FlagChangeFrame [physOf rd s.flag.p] r s1.tlb s t := by
  obtain ⟨t, ht, hpc, hresult, _, _, hframe⟩ := execBinary_commits hrd ho (arithCompute op)
  subst hr
  exact ⟨t, hexec.trans ht, hpc, hresult, hframe⟩

/-- Settles O26: the committed result of each of the five. -/
theorem logicAddsMulWriteTheirResult : Obligations.LogicAddsMulWriteTheirResult := by
  intro op rd o s s1 b hrd ho a r hr
  rcases hr with ⟨rfl, rfl⟩ | ⟨rfl, rfl⟩ | ⟨rfl, rfl⟩ | ⟨rfl, hr⟩ | ⟨rfl, hr⟩
  · exact exec_drawnFlags hrd ho (exec_and rd o s) rfl
  · exact exec_drawnFlags hrd ho (exec_or rd o s) rfl
  · exact exec_drawnFlags hrd ho (exec_xor rd o s) rfl
  · refine exec_drawnFlags hrd ho (exec_adds rd o s) (BitVec.eq_of_toNat_eq ?_)
    show (a + 2 * b).toNat = r.toNat
    rw [hr, BitVec.toNat_add, BitVec.toNat_mul]
    simp
  · refine exec_drawnFlags hrd ho (exec_mul rd o s) (BitVec.eq_of_toNat_eq ?_)
    rw [hr]; exact BitVec.toNat_mul a b

/-! ## DIV, MOD (R153 to R155) -/

/-- The common domain: floor quotient and remainder, which fit a word. -/
theorem divmod_common {a b : Word} (ha : a.toNat ≤ 0x7FFF) (hb : b.toNat ≤ 0x7FFF) (h0 : b ≠ 0) :
    a.toNat = (divmod a b).1.toNat * b.toNat + (divmod a b).2.toNat ∧ (divmod a b).2.toNat < b.toNat := by
  have hpos : 0 < b.toNat := Nat.pos_of_ne_zero fun h => h0 (BitVec.eq_of_toNat_eq h)
  have hcommon : divisionCommon a b = true := decide_eq_true ⟨ha, hb⟩
  have hquot := Nat.div_le_self a.toNat b.toNat
  have hrem := Nat.mod_lt a.toNat hpos
  rw [divmod, if_pos hcommon]
  dsimp only
  rw [BitVec.toNat_ofNat, BitVec.toNat_ofNat, Nat.mod_eq_of_lt (show _ < 2 ^ 16 by omega),
    Nat.mod_eq_of_lt (show _ < 2 ^ 16 by omega)]
  exact ⟨(Nat.div_add_mod' a.toNat b.toNat).symm, hrem⟩

theorem divmod_open {a b : Word} (h : ¬(a.toNat ≤ 0x7FFF ∧ b.toNat ≤ 0x7FFF)) : divmod a b = Config.divmod a b := by
  rw [divmod, divisionCommon, decide_eq_false h, if_neg Bool.false_ne_true]

/-- Settles O27: the committed results are the two components of `divmod`. -/
theorem divModWriteQuotientAndRemainder : Obligations.DivModWriteQuotientAndRemainder := by
  intro rd o s s1 b hrd ho hb a
  obtain ⟨t, ht, htpc, htr, _, _, htframe⟩ := execDivision_commits hrd ho computeDiv hb
  obtain ⟨u, hu, hupc, hur, _, _, huframe⟩ := execDivision_commits hrd ho computeMod hb
  exact ⟨t, u, (divmod a b).1, (divmod a b).2, (exec_div rd o s).trans ht, (exec_mod rd o s).trans hu, htpc, hupc, htr, hur,
    fun ha hb' => divmod_common ha hb' hb, fun h => divmod_open h, htframe, huframe⟩

/-- Settles O28: the divisor is looked at after the operand read and before anything is written. -/
theorem divisionByZeroTraps : Obligations.DivisionByZeroTraps := by
  intro op rd o s s1 hop hrd ho
  refine ⟨?_, fun r _ => ?_⟩
  · rcases hop with rfl | rfl
    · exact (exec_div rd o s).trans (execDivision_zero hrd ho)
    · exact (exec_mod rd o s).trans (execDivision_zero hrd ho)
  · rw [readOperand_done_state ho, setTlb_readPhys]

/-! ## Rd = FLAG (R140, R160) -/

theorem execBinary_flag (f : Word → Word → Nat → Computed) (o : Operand) (s : State) :
    execBinary f .flag o s = .refused .flagDestination := by rw [execBinary, if_pos rfl]

theorem execDivision_flag (f : Word → Word → Nat → Computed) (o : Operand) (s : State) :
    execDivision f .flag o s = .refused .flagDestination := by rw [execDivision, if_pos rfl]

/-- Settles O29: both shapes refuse Rd = FLAG first. -/
theorem flagDestinationIsRefused : Obligations.FlagDestinationIsRefused := by
  intro o s
  refine ⟨fun op hop => ?_, fun op => ?_⟩
  · rw [exec_arith]
    cases op with
    | cmp => exact absurd rfl hop
    | div | mod => exact execDivision_flag _ o s
    | add | sub | and | or | xor | adds | mul => exact execBinary_flag _ o s
  · rw [exec_shift]; exact execBinary_flag _ o s

/-! ## Shifts (R161 to R166) -/

/-- The result of a shift by 0 to 15 (R163 to R166). -/
def shiftSmall : ShiftOp → Word → Word → Word
  | .shla => fun a n => a <<< n.toNat
  | .shll => fun a n => a <<< n.toNat
  | .shra => fun a n => a.sshiftRight n.toNat
  | .shrl => fun a n => a >>> n.toNat

/-- The bit that a shift by one place shifts out (R161). -/
def shiftedOut : ShiftOp → Word → Bool
  | .shla => fun a => a.getLsbD 15
  | .shll => fun a => a.getLsbD 15
  | .shra => fun a => a.getLsbD 0
  | .shrl => fun a => a.getLsbD 0

theorem shiftCompute_eq (op : ShiftOp) (a n : Word) (k : Nat) :
    shiftCompute op a n k = shiftFlags (shiftResult op (shiftSmall op a n) a n) n (shiftedOut op a) k := by
  cases op <;> rfl

theorem shiftCompute_small {n : Word} (h : n.toNat ≤ 15) (op : ShiftOp) (a : Word) (k : Nat) :
    (shiftCompute op a n k).r = shiftSmall op a n := by
  rw [shiftCompute_eq]; exact if_pos h

theorem shiftCompute_big {n : Word} (h : 16 ≤ n.toNat) (op : ShiftOp) (a : Word) (k : Nat) :
    (shiftCompute op a n k).r = Config.shiftBig op a n := by
  rw [shiftCompute_eq]; exact if_neg (by omega)

theorem shiftCompute_carry_one (op : ShiftOp) (a : Word) (k : Nat) : (shiftCompute op a 1 k).c = shiftedOut op a := by
  rw [shiftCompute_eq]; simp only [shiftFlags, if_true]

/-- Settles O30: the committed result is `shiftSmall`, whose four cases are the arithmetic of R163 to R166. -/
theorem shiftBySmallAmount : Obligations.ShiftBySmallAmount := by
  intro op rd o s s1 n hrd ho hn a
  obtain ⟨t, ht, hpc, hresult, hc, _, hframe⟩ := execBinary_commits hrd ho (shiftCompute op)
  rw [shiftCompute_small hn] at hresult hframe
  refine ⟨t, (exec_shift op rd o s).trans ht, hpc, ?_, ?_, ?_, ?_, ?_⟩
  · rintro (rfl | rfl) <;> rw [hresult] <;> exact (BitVec.toNat_shiftLeft ..).trans (by rw [Nat.shiftLeft_eq])
  · rintro rfl; rw [hresult]; exact (BitVec.toInt_sshiftRight ..).trans (by rw [Int.shiftRight_eq_div_pow]; norm_cast)
  · rintro rfl; rw [hresult]; exact (BitVec.toNat_ushiftRight ..).trans (Nat.shiftRight_eq_div_pow ..)
  · rintro rfl
    rw [hc, shiftCompute_carry_one]
    cases op <;> rfl
  · rw [hresult]; exact hframe

/-- Settles O31: the committed result is `SHIFT_BIG`'s. -/
theorem shiftByLargeAmountCompletes : Obligations.ShiftByLargeAmountCompletes := by
  intro op rd o s s1 n hrd ho hn
  obtain ⟨t, ht, hpc, hresult, _, _, hframe⟩ := execBinary_commits hrd ho (shiftCompute op)
  rw [shiftCompute_big hn] at hresult hframe
  exact ⟨t, (exec_shift op rd o s).trans ht, hpc, hresult, hframe⟩

end Sys2Proof.Machine
end

section
/-! PROOFS of the statements of 44_jump_call.md and 46_stack_return.md. -/

namespace Sys2Proof.Machine

/-! ## Jumps (R170 to R172) -/

/-- Settles O33: each jump is `execJump` of its condition. -/
theorem jumpGoesToTargetOnCondition : Obligations.JumpGoesToTargetOnCondition := by
  intro t s target goes f
  have htarget : targetAddress t s = target := by cases t <;> rfl
  have hjump (cond : Cond) : exec (Instr.ofForm (.jump cond t)) s = .next (goes (condHolds cond f)) := by
    rw [exec_jump, execJump, htarget]
  exact ⟨hjump .z, hjump .c, hjump .m, hjump .o, hjump .gt, hjump .ge, hjump .le, hjump .lt, hjump .nz, hjump .nc,
    hjump .nm, hjump .no, hjump .hi, hjump .ls, hjump .always⟩

/-! ## The stack pointer in use (R22) -/

@[simp] theorem setSp_pc (s : State) (v : Word) : (s.setSp v).pc = s.pc := writeReg_pc s _ v
@[simp] theorem setSp_tlb (s : State) (v : Word) : (s.setSp v).tlb = s.tlb := writeReg_tlb s _ v
@[simp] theorem setSp_physByte (s : State) (v a : Word) : (s.setSp v).physByte a = s.physByte a := writeReg_physByte s _ v a
@[simp] theorem setSp_physWord (s : State) (v a : Word) : (s.setSp v).physWord a = s.physWord a := writeReg_physWord s _ v a

theorem setSp_readPhys (s : State) (v : Word) (q : PhysReg) :
    (s.setSp v).readPhys q = if q = physOf .sp s.flag.p then v else s.readPhys q := by
  rw [State.setSp, State.writeReg, readPhys_writePhys, if_neg (physOf_sp_ne_flag _)]

@[simp] theorem setSp_sp (s : State) (v : Word) : (s.setSp v).sp = v := by
  rw [← readPhys_sp, setSp_flag, setSp_readPhys, if_pos rfl]

theorem sameControl_setSp (s : State) (v : Word) : SameControl s (s.setSp v) := sameControl_writePhys s _ v

/-- A stack pointer in use that is the same, with every other register, is every register. -/
theorem sameRegs_of_sp {s t : State} (hflag : t.flag = s.flag) (hsp : t.sp = s.sp)
    (hregs : SameRegsBut [physOf .sp s.flag.p] s t) : SameRegsBut [] s t := by
  intro r _
  by_cases hr : r = physOf .sp s.flag.p
  · subst hr; rw [readPhys_sp, ← hflag, readPhys_sp, hsp]
  · exact hregs r (by simpa using hr)

theorem namesStackPointerInUse_iff (rd : Reg) (s : State) :
    namesStackPointerInUse rd s = true ↔ rd = .sp ∨ rd = .usp ∧ s.flag.p = false := by
  simp [namesStackPointerInUse]

theorem namesStackPointerInUse_false {rd : Reg} {s : State} (hsp : rd ≠ .sp) (husp : rd = .usp → s.flag.p = true) :
    namesStackPointerInUse rd s = false := by
  rw [← Bool.not_eq_true, namesStackPointerInUse_iff]
  rintro (h | ⟨h, hp⟩)
  · exact hsp h
  · rw [husp h] at hp; cases hp

/-- Settles O39: PUSH and POP look at the register number first. -/
theorem stackPointerInUseIsRefused : Obligations.StackPointerInUseIsRefused := by
  intro rd s h
  have hnames := (namesStackPointerInUse_iff rd s).mpr h
  constructor
  · show execPush rd s = _
    rw [execPush, if_pos hnames]
  · show execPop rd s = _
    rw [execPop, if_pos hnames]

/-! ## Pushes and pops (R200) -/

/-- What a push through a translation leaves, the PC apart: the word at the translated slot, the stack pointer in use at the
slot, everything else as before but the TLB's marks. -/
theorem push_frame {s s1 : State} {pa : Word} (v pc : Word) (he : s.sp.getLsbD 0 = false)
    (ht : translate (s.sp - 2) .write s = .done pa s1) (hr : s1.romShown pa = false) :
    ∃ t, push v s = .done () t ∧ (t.setPc pc).sp = s.sp - 2 ∧ (t.setPc pc).physWord pa = v ∧
      SameMemoryBut [pa, pa + 1] s (t.setPc pc) ∧ SameRegsBut [physOf .sp s.flag.p] s (t.setPc pc) ∧
      (t.setPc pc).flag = s.flag ∧ SameControl s (t.setPc pc) ∧ (t.setPc pc).tlb = s1.tlb := by
  obtain ⟨_, _, hword, hmem, hregs, hflag, _, hcontrol, htlb⟩ := storeWord_frame v (even_sub_two he) ht hr
  refine ⟨_, push_done.mpr ⟨he, pa, s1, ht, hr, rfl⟩, ?_, ?_, fun a ha => ?_, fun q hq => ?_, ?_, ?_, ?_⟩
  · rw [setPc_sp, setSp_sp]
  · rw [setPc_physWord, setSp_physWord, hword]
  · rw [setPc_physByte, setSp_physByte, hmem a ha]
  · rw [setPc_readPhys, setSp_readPhys, hflag, if_neg (by simpa using hq), hregs q List.not_mem_nil]
  · rw [setPc_flag, setSp_flag, hflag]
  · exact hcontrol.trans ((sameControl_setSp _ _).trans (sameControl_setPc _ _))
  · rw [setPc_tlb, setSp_tlb, htlb]

/-- Settles O35: CALL is a push and then a jump to the target computed before. -/
theorem callPushesReturnAddress : Obligations.CallPushesReturnAddress := by
  intro tg s s1 pa he ht hr
  obtain ⟨t, hpush, hframe⟩ := push_frame (s.pc + 4) (targetAddress tg s) he ht hr
  refine ⟨t.setPc (targetAddress tg s), ?_, ?_, hframe⟩
  · rw [exec_call, execCall, hpush, complete_done]
  · cases tg <;> rfl

/-- Settles O37: PUSH is a push. -/
theorem pushStoresTheRegister : Obligations.PushStoresTheRegister := by
  intro rd s s1 pa hsp husp he ht hr
  obtain ⟨t, hpush, hframe⟩ := push_frame (s.readReg rd) (s.pc + 2) he ht hr
  refine ⟨t.setPc (s.pc + 2), ?_, rfl, hframe⟩
  show execPush rd s = _
  rw [execPush, namesStackPointerInUse_false hsp husp, if_neg Bool.false_ne_true, hpush, complete_done]

section
variable {s s1 : State} {v : Word} (h : memReadWord .read s.sp s = .done v s1)
include h

/-- What a pop leaves: the stack pointer in use 2 higher, everything else as before but the TLB's marks. -/
theorem pop_frame : ∃ t, pop s = .done v t ∧ t.sp = s.sp + 2 ∧ SameRegsBut [physOf .sp s.flag.p] s t ∧
    t.flag = s.flag ∧ SameMemory s t ∧ SameControl s t ∧ t.tlb = s1.tlb := by
  obtain ⟨u, rfl⟩ : ∃ u, s1 = s.setTlb u := ⟨_, (memReadWord_marks (.inl ⟨v, h⟩)).1⟩
  refine ⟨_, pop_done.mpr ⟨_, h, rfl⟩, setSp_sp _ _, fun q hq => ?_, setSp_flag _ _, fun a => ?_, ?_, setSp_tlb _ _⟩
  · rw [setSp_readPhys, if_neg (by simpa using hq), setTlb_readPhys]
  · rw [setSp_physByte, setTlb_physByte]
  · exact (sameControl_setTlb s u).trans (sameControl_setSp _ _)

end

/-- Settles O41: RET is a pop into the PC. -/
theorem retPopsThePc : Obligations.RetPopsThePc := by
  intro s s1 v h
  obtain ⟨t, hpop, hsp, hregs, hflag, hmem, hcontrol, htlb⟩ := pop_frame h
  refine ⟨t.setPc v, ?_, rfl, ?_, fun q hq => ?_, hflag, hmem, hcontrol, htlb⟩
  · show execRet s = _
    rw [execRet, hpop, complete_done]
  · rw [setPc_sp, hsp]
  · rw [setPc_readPhys, hregs q hq]

/-- Settles O38: POP is a pop and then a register write, of another register than the stack pointer in use. -/
theorem popLoadsTheRegister : Obligations.PopLoadsTheRegister := by
  intro rd s s1 v hsp husp h
  obtain ⟨t, hpop, htsp, hregs, hflag, hmem, hcontrol, htlb⟩ := pop_frame h
  have hother : physOf .sp s.flag.p ≠ physOf rd s.flag.p := fun e => by
    rcases (physOf_eq_sp rd s.flag.p).mp e.symm with hrd | ⟨hrd, hp⟩
    · exact hsp hrd
    · rw [husp hrd] at hp; cases hp
  obtain ⟨hwrote, hrest⟩ := wroteReg_writeReg (rd := rd) (v := v) (s := t) rfl (fun _ => rfl) (s.pc + 2)
  rw [hflag] at hwrote hrest
  refine ⟨(t.writeReg rd v).setPc (s.pc + 2), ?_, rfl, ?_, hwrote, fun q hq => ?_, fun a => ?_, ?_, ?_⟩
  · show execPop rd s = _
    rw [execPop, namesStackPointerInUse_false hsp husp, if_neg Bool.false_ne_true, hpop, complete_done]
  · rw [hrest _ (by simpa using hother), ← hflag, readPhys_sp, htsp]
  · simp only [List.mem_cons, List.not_mem_nil, or_false, not_or] at hq
    rw [hrest q (by simpa using hq.2), hregs q (by simpa using hq.1)]
  · rw [setPc_physByte, writeReg_physByte, hmem a]
  · exact hcontrol.trans ((sameControl_writePhys _ _ _).trans (sameControl_setPc _ _))
  · rw [setPc_tlb, writeReg_tlb, htlb]

/-! ## A push and the pop of its word (R204) -/

theorem translates_of_same {s t : State} (hflag : t.flag = s.flag) (hcontrol : SameControl s t) :
    t.translates = s.translates := by
  obtain ⟨_, hmmu, _⟩ := hcontrol
  unfold State.translates
  rw [hflag, hmmu]

/-- Where translation does not apply, the word on the stack is read from where the stack pointer points. -/
theorem memReadWord_stack {t : State} (htr : t.translates = false) (he : t.sp.getLsbD 0 = false) :
    memReadWord .read t.sp t = .done (t.physWord t.sp) t :=
  memReadWord_done.mpr ⟨he, t.sp, translate_of_not_translates htr _ _, rfl⟩

theorem sub_two_add_two (w : Word) : w - 2 + 2 = w := BitVec.sub_add_cancel w 2

/-- Settles O36: RET pops what CALL pushed. -/
theorem returnUndoesCall : Obligations.ReturnUndoesCall := by
  intro tg s t pc htr he hrom ht
  obtain ⟨t', ht', _, hsp, hword, _, hregs, hflag, hcontrol, _⟩ :=
    callPushesReturnAddress tg s s (s.sp - 2) he (translate_of_not_translates htr _ _) hrom
  obtain rfl : t' = t := by rw [ht] at ht'; cases ht'; rfl
  have hread : memReadWord .read (t'.setPc pc).sp (t'.setPc pc) = .done (s.pc + 4) (t'.setPc pc) := by
    rw [memReadWord_stack (t := t'.setPc pc) ((translates_of_same hflag hcontrol).trans htr)
        (by rw [setPc_sp, hsp]; exact even_sub_two he),
      setPc_sp, setPc_physWord, hsp, hword]
  obtain ⟨u, hu, hpc, husp, huregs, huflag, _⟩ := retPopsThePc _ _ _ hread
  rw [setPc_flag, hflag] at huregs huflag
  refine ⟨u, hu, hpc, sameRegs_of_sp huflag (by rw [husp, setPc_sp, hsp, sub_two_add_two]) fun q hq => ?_⟩
  rw [huregs q hq, setPc_readPhys, hregs q hq]

/-- Settles O40: POP pops what PUSH pushed. -/
theorem pushThenPopCopies : Obligations.PushThenPopCopies := by
  intro rd rd' s t htr he hrom hsp' hflag' husp' ht hsp
  have husp : rd = .usp → s.flag.p = true := by
    intro hrd
    by_contra hp
    rw [(stackPointerInUseIsRefused rd s (.inr ⟨hrd, by simpa using hp⟩)).1] at ht
    cases ht
  obtain ⟨t', ht', _, htsp, hword, _, hregs, hflag, hcontrol, _⟩ :=
    pushStoresTheRegister rd s s (s.sp - 2) hsp husp he (translate_of_not_translates htr _ _) hrom
  obtain rfl : t' = t := by rw [ht] at ht'; cases ht'; rfl
  have hread := memReadWord_stack ((translates_of_same hflag hcontrol).trans htr) (by rw [htsp]; exact even_sub_two he)
  rw [htsp, hword, ← htsp] at hread
  obtain ⟨u, hu, _, husp2, hwrote, huregs, _⟩ :=
    popLoadsTheRegister rd' t' t' (s.readReg rd) hsp' (fun h => by rw [hflag]; exact husp' h) hread
  rw [if_neg hflag'] at hwrote
  obtain ⟨hvalue, huflag⟩ := hwrote
  rw [hflag] at hvalue huflag husp2 huregs
  rw [htsp, sub_two_add_two] at husp2
  refine ⟨u, hu, ?_, ?_, fun q hq => ?_⟩
  · rw [State.readReg, huflag]; exact hvalue
  · rw [← readPhys_sp, huflag, husp2]
  · by_cases hqsp : q = physOf .sp s.flag.p
    · rw [hqsp, husp2, readPhys_sp]
    · rw [huregs q (by simpa [hqsp] using hq), hregs q (by simpa using hqsp)]

/-! ## RETI (R205) -/

/-- Settles O42: the two reads of `trapReturn`, other agents between them, then the commit. -/
theorem retiRestoresFlagAndPc : Obligations.RetiRestoresFlagAndPc := by
  intro s s1 s2 f v h1 h2
  obtain ⟨u1, rfl⟩ : ∃ u, s1 = s.setTlb u := ⟨_, (memReadWord_marks (.inl ⟨f, h1⟩)).1⟩
  obtain ⟨u2, rfl⟩ : ∃ u, s2 = (otherAgents (s.setTlb u1)).setTlb u := ⟨_, (memReadWord_marks (.inl ⟨v, h2⟩)).1⟩
  refine ⟨((((otherAgents (s.setTlb u1)).setTlb u2).setSp (s.sp + 4)).setFlag (s.flag.load f)).setPc v, ?_, rfl, rfl, ?_,
    fun q hq => ?_, fun a ha => ?_, ?_, ?_⟩
  · show execReti s = _
    rw [execReti, trapReturn_done.mpr ⟨f, _, v, _, h1, h2, rfl⟩, complete_done]
  · rw [setPc_readPhys, readPhys_setFlag, if_neg (physOf_sp_ne_flag _), setSp_readPhys, setTlb_flag, otherAgents_flag,
      setTlb_flag, if_pos rfl]
  · simp only [List.mem_cons, List.not_mem_nil, or_false, not_or] at hq
    rw [setPc_readPhys, readPhys_setFlag, if_neg hq.2, setSp_readPhys, setTlb_flag, otherAgents_flag, setTlb_flag,
      if_neg hq.1, setTlb_readPhys, otherAgents_readPhys, setTlb_readPhys]
  · have ha' : a ∉ (s.setTlb u1).agentCells := by rw [agentCells_of_dev (setTlb_dev s u1)]; exact ha
    rw [setPc_physByte, setFlag_physByte, setSp_physByte, setTlb_physByte, otherAgents_physByte ha', setTlb_physByte]
  · exact (sameControl_setTlb s u1).trans <| (sameControl_otherAgents _).trans <| (sameControl_setTlb _ u2).trans <|
      (sameControl_setSp _ _).trans <| (sameControl_setFlag _ _).trans (sameControl_setPc _ _)
  · rw [setPc_tlb, setFlag_tlb, setSp_tlb]

end Sys2Proof.Machine
end

section
/-! PROOFS of the statements of 47_system.md and 60_exceptions.md: SVC and trap entry. -/

namespace Sys2Proof.Machine

/-! ## Trap entry (R234, R238) -/

/-- Settles O51: `trapState` is the state trap entry leaves. -/
theorem trapEntryBuildsTheFrame : Obligations.TrapEntryBuildsTheFrame := by
  intro slot saved s hfits
  obtain ⟨hframe, hmem⟩ := trapState_frame (slot := slot) (saved := saved) hfits
  have hslot : s.ssp - 4 + 2 = s.ssp - 2 := by bv_omega
  refine ⟨trapState slot saved s, trapEntry_fits hfits, fun hfree => ?_, trapState_ssp slot saved s,
    trapState_flag slot saved s, trapState_pc slot saved s, trapState_regs slot saved s, hmem,
    trapState_control slot saved s, trapState_tlb slot saved s⟩
  rw [trapState_ssp, hslot]
  exact hframe hfree

/-- Settles O52: the parity of SSP, then the two slots. -/
theorem trapEntryOutcomes : Obligations.TrapEntryOutcomes := fun slot saved s =>
  ⟨trapEntry_odd, trapEntry_rom, fun he h2 h4 => ⟨trapState slot saved s, trapEntry_fits ⟨he, h2, h4⟩⟩⟩

/-- Settles O50: SVC is a trap entry that saves the next instruction's address. -/
theorem svcEntersTheHandler : Obligations.SvcEntersTheHandler := by
  intro s hfits
  obtain ⟨t, ht, hframe, hssp, hrest⟩ := trapEntryBuildsTheFrame .supervisorCall (s.pc + 2) s hfits
  have hslot : s.ssp - 4 + 2 = s.ssp - 2 := by bv_omega
  rw [hssp, hslot] at hframe
  exact ⟨t, ht, hframe, hssp, hrest⟩

/-- RETI in privileged mode with a frame on the kernel stack whose upper word no transfer's buffer holds. -/
theorem reti_privileged {h : State} {f v : Word} (hp : h.flag.p = true) (he : h.ssp.getLsbD 0 = false)
    (hf : h.physWord h.ssp = f) (hv : h.physWord (h.ssp + 2) = v) (hfree : h.ssp + 2 ∉ h.agentCells)
    (hfree1 : h.ssp + 2 + 1 ∉ h.agentCells) :
    ∃ u, exec .reti h = .next u ∧ u.pc = v ∧ u.flag = h.flag.load f ∧ u.ssp = h.ssp + 4 ∧
      SameRegsBut [.ssp, .flag] h u := by
  have hsp : h.sp = h.ssp := by rw [sp_eq, hp, if_pos rfl]
  have htr : h.translates = false := translates_of_privileged hp
  have he2 : (h.ssp + 2).getLsbD 0 = false := by rw [even_iff] at he ⊢; bv_omega
  have h1 : memReadWord .read h.sp h = .done f h :=
    memReadWord_done.mpr ⟨by rw [hsp]; exact he, h.sp, translate_of_not_translates htr _ _, by rw [hsp, hf]⟩
  have h2 : memReadWord .read (h.sp + 2) (otherAgents h) = .done v (otherAgents h) :=
    memReadWord_done.mpr ⟨by rw [hsp]; exact he2, h.sp + 2,
      translate_of_not_translates (by rw [otherAgents_translates, htr]) _ _,
      by rw [hsp, otherAgents_physWord hfree hfree1, hv]⟩
  obtain ⟨u, hu, hpc, hflag, hussp, hregs, _⟩ := retiRestoresFlagAndPc h h (otherAgents h) _ _ h1 h2
  rw [hp] at hussp hregs
  exact ⟨u, hu, hpc, hflag, hussp.trans (by rw [hsp]), hregs⟩

/-- Settles O55: the handler's RETI is in privileged mode and finds the frame where SSP points. -/
theorem returnFromTrapRestores : Obligations.ReturnFromTrapRestores := by
  intro slot saved pc s t hfree ht
  obtain ⟨hfits, rfl⟩ := trapEntry_next.mp ht
  obtain ⟨hwords, _⟩ := trapState_frame (slot := slot) (saved := saved) hfits
  obtain ⟨hsaved, hflagword⟩ := hwords hfree
  have hssp : ((trapState slot saved s).setPc pc).ssp = s.ssp - 4 := trapState_ssp slot saved s
  have hp : ((trapState slot saved s).setPc pc).flag.p = true := by rw [setPc_flag, trapState_flag]; rfl
  have hcells : ((trapState slot saved s).setPc pc).agentCells = s.agentCells := trapState_agentCells slot saved s
  have heven : (s.ssp - 4).getLsbD 0 = false := by rw [← sub_two_two]; exact even_sub_two (even_sub_two hfits.1)
  have hslot : s.ssp - 4 + 2 = s.ssp - 2 := by bv_omega
  have hslot1 : s.ssp - 2 + 1 = s.ssp - 1 := by bv_omega
  obtain ⟨u, hu, hpc, hflag, hussp, hregs⟩ := reti_privileged (h := (trapState slot saved s).setPc pc) (f := s.flag.toWord)
    (v := saved) hp
    (by rw [hssp]; exact heven) (by rw [hssp, setPc_physWord]; exact hflagword)
    (by rw [hssp, hslot, setPc_physWord]; exact hsaved) (by rw [hssp, hslot, hcells]; exact hfree _ (by simp))
    (by rw [hssp, hslot, hslot1, hcells]; exact hfree _ (by simp))
  rw [load_toWord_of_privileged _ _ hp] at hflag
  refine ⟨u, hu, hpc, hflag, fun q _ => ?_⟩
  by_cases hq : q = .ssp
  · have hback : s.ssp - 4 + 4 = s.ssp := BitVec.sub_add_cancel _ _
    rw [hq]; show u.ssp = s.ssp; rw [hussp, hssp, hback]
  by_cases hq' : q = .flag
  · rw [hq']; show u.flag.toWord = s.flag.toWord; rw [hflag]
  · rw [hregs q (by simp [hq, hq']), setPc_readPhys, trapState_readPhys, if_neg hq, if_neg hq']

end Sys2Proof.Machine
end

section
/-! PROOF of the statement on failing memory accesses (R53, R55, R69, R124, R234). -/

namespace Sys2Proof.Machine

/-! ## Accesses that fail -/

/-- An operand read that raises leaves the state. -/
theorem readOperand_raised_state {o : Operand} {s s1 : State} {e : Exc} (h : readOperand o s = .raised e s1) : s1 = s := by
  cases o with
  | drct | index | fpRlt | indr => exact memReadWord_raised_state h
  | imm | reg | imm4 => cases h
  | bIndr => exact (translate_raised (memReadByte_raised.mp h)).1

section
variable {rd : Reg} {o : Operand} {s : State} {x : Refusal} (h : readOperand o s = .refused x)
include h

theorem execBinary_refused (f : Word → Word → Nat → Computed) (hrd : rd ≠ .flag) : execBinary f rd o s = .refused x := by
  rw [execBinary, if_neg hrd, h, complete_refused]

theorem execDivision_refused (f : Word → Word → Nat → Computed) (hrd : rd ≠ .flag) :
    execDivision f rd o s = .refused x := by
  rw [execDivision, if_neg hrd, h, complete_refused]

theorem exec_arith_refused (op : ArithOp) (hrd : rd ≠ .flag ∨ op = .cmp) :
    exec (Instr.ofForm (.arith op rd o)) s = .refused x := by
  rw [exec_arith]
  cases op with
  | cmp => dsimp only; rw [execCmp, h, complete_refused]
  | div | mod => exact execDivision_refused h _ (hrd.resolve_right (by simp))
  | add | sub | and | or | xor | adds | mul => exact execBinary_refused h _ (hrd.resolve_right (by simp))

end

theorem exec_arith_raised {rd : Reg} {o : Operand} {s s1 : State} {e : Exc} (h : readOperand o s = .raised e s1)
    (op : ArithOp) (hrd : rd ≠ .flag ∨ op = .cmp) :
    exec (Instr.ofForm (.arith op rd o)) s = takeException e s.pc (s.pc + operandSize o) s := by
  obtain rfl := readOperand_raised_state h
  rw [exec_arith]
  cases op with
  | cmp => exact execCmp_raised h
  | div | mod => exact execDivision_raised (hrd.resolve_right (by simp)) h
  | add | sub | and | or | xor | adds | mul => exact execBinary_raised (hrd.resolve_right (by simp)) h

/-! ## What an instruction does with a failing access

Each of these instructions is `complete` of its access: it takes what the access raises in the state it started in, and
stops with what the access is refused. -/

/-- The result follows the access `x` where that fails. -/
def FollowsFailure {α : Type} (x : Access α) (next : Word) (s : State) (r : Result) : Prop :=
  (∀ e, x = .raised e s → r = takeException e s.pc next s) ∧ ∀ y, x = .refused y → r = .refused y

section
variable {α : Type} {x : Access α} {a v next : Word} {s : State} {r : Result}

theorem followsFailure_complete (x : Access α) (next : Word) (s : State) (k : α → State → Result) :
    FollowsFailure x next s (complete x s.pc next k) :=
  ⟨fun e he => by rw [he, complete_raised], fun y hy => by rw [hy, complete_refused]⟩

/-- A word access through `x`, and what makes `x` fail. -/
theorem failsAsTheAccess_word {kind : AccessKind} (h : FollowsFailure x next s r)
    (hodd : a.getLsbD 0 = true → x = .raised (.badAddr a) s)
    (hraised : ∀ e, a.getLsbD 0 = false → translate a kind s = .raised e s → x = .raised e s)
    (hrefused : ∀ y, a.getLsbD 0 = false → translate a kind s = .refused y → x = .refused y)
    (hrom : kind = .write → ∀ pa s1, a.getLsbD 0 = false → translate a kind s = .done pa s1 → s1.romShown pa = true →
      x = .refused .iplRomWrite) : FailsAsTheAccess kind true a next s r := by
  refine ⟨fun _ ha => h.1 _ (hodd ha), fun heven => ⟨fun e s1 ht => ?_, fun y ht => ?_, fun hk pa s1 ht hr => ?_⟩⟩
  · obtain rfl := (translate_raised ht).1
    exact h.1 e (hraised e (heven rfl) ht)
  · exact h.2 y (hrefused y (heven rfl) ht)
  · exact h.2 _ (hrom hk pa s1 (heven rfl) ht hr)

theorem failsAsTheAccess_writeWord (h : FollowsFailure (memWriteWord a v s) next s r) :
    FailsAsTheAccess .write true a next s r :=
  failsAsTheAccess_word h (fun ha => memWriteWord_raised.mpr (.inl ⟨ha, rfl, rfl⟩))
    (fun _ ha ht => memWriteWord_raised.mpr (.inr ⟨ha, ht⟩)) (fun _ ha ht => memWriteWord_refused.mpr ⟨ha, .inl ht⟩)
    fun _ pa s1 ha ht hr => memWriteWord_refused.mpr ⟨ha, .inr ⟨rfl, pa, s1, ht, hr⟩⟩

theorem failsAsTheAccess_readWord (h : FollowsFailure (memReadWord .read a s) next s r) :
    FailsAsTheAccess .read true a next s r :=
  failsAsTheAccess_word h (fun ha => memReadWord_raised.mpr (.inl ⟨ha, rfl, rfl⟩))
    (fun _ ha ht => memReadWord_raised.mpr (.inr ⟨ha, ht⟩)) (fun _ ha ht => memReadWord_refused.mpr ⟨ha, ht⟩)
    (by rintro ⟨⟩)

theorem failsAsTheAccess_writeByte (h : FollowsFailure (memWriteByte a v s) next s r) :
    FailsAsTheAccess .write false a next s r := by
  refine ⟨by rintro ⟨⟩, fun _ => ⟨fun e s1 ht => ?_, fun y ht => ?_, fun _ pa s1 ht hr => ?_⟩⟩
  · obtain rfl := (translate_raised ht).1
    exact h.1 e (memWriteByte_raised.mpr ht)
  · exact h.2 y (memWriteByte_refused.mpr (.inl ht))
  · exact h.2 _ (memWriteByte_refused.mpr (.inr ⟨rfl, pa, s1, ht, hr⟩))

/-- A push fails as its write does, and a pop as its read does. -/
theorem followsFailure_push (h : FollowsFailure (push v s) next s r) :
    FollowsFailure (memWriteWord (s.sp - 2) v s) next s r :=
  ⟨fun e he => h.1 e (push_raised.mpr he), fun y hy => h.2 y (push_refused.mpr hy)⟩

theorem followsFailure_pop (h : FollowsFailure (pop s) next s r) : FollowsFailure (memReadWord .read s.sp s) next s r :=
  ⟨fun e he => h.1 e (pop_raised.mpr he), fun y hy => h.2 y (pop_refused.mpr hy)⟩

end

theorem execSt_fails (rd : Reg) (p : Place) (s : State) : FailsAsTheAccess .write (!placeIsByte p) (placeAddress p s)
    (s.pc + placeSize p) s (exec (Instr.ofForm (.st rd p)) s) := by
  have h : FollowsFailure (writePlace p (s.readReg rd) s) (s.pc + placeSize p) s (exec (Instr.ofForm (.st rd p)) s) := by
    rw [exec_st]; exact followsFailure_complete _ _ _ _
  cases p with
  | drct | index | fpRlt | indr => exact failsAsTheAccess_writeWord h
  | bIndr => exact failsAsTheAccess_writeByte h

theorem execPush_fails {rd : Reg} {s : State} (hsp : rd ≠ .sp) (husp : rd = .usp → s.flag.p = true) :
    FailsAsTheAccess .write true (s.sp - 2) (s.pc + 2) s (exec (.push rd) s) := by
  refine failsAsTheAccess_writeWord (followsFailure_push (v := s.readReg rd) ?_)
  show FollowsFailure _ _ _ (execPush rd s)
  rw [execPush, namesStackPointerInUse_false hsp husp, if_neg Bool.false_ne_true]
  exact followsFailure_complete _ _ _ _

theorem execPop_fails {rd : Reg} {s : State} (hsp : rd ≠ .sp) (husp : rd = .usp → s.flag.p = true) :
    FailsAsTheAccess .read true s.sp (s.pc + 2) s (exec (.pop rd) s) := by
  refine failsAsTheAccess_readWord (followsFailure_pop ?_)
  show FollowsFailure _ _ _ (execPop rd s)
  rw [execPop, namesStackPointerInUse_false hsp husp, if_neg Bool.false_ne_true]
  exact followsFailure_complete _ _ _ _

theorem execReti_fails_first (s : State) : FailsAsTheAccess .read true s.sp (s.pc + 2) s (exec .reti s) := by
  refine failsAsTheAccess_readWord ⟨fun e he => ?_, fun y hy => ?_⟩
  · show execReti s = _
    rw [execReti, trapReturn_raised_first he, complete_raised]
  · show execReti s = _
    rw [execReti, trapReturn_refused_first hy, complete_refused]

/-- RETI's second read fails in the state other agents left after its first. -/
theorem execReti_fails_second {s s1 : State} {f : Word} (h1 : memReadWord .read s.sp s = .done f s1) :
    FailsAsTheAccess .read true (s.sp + 2) (s.pc + 2) (otherAgents s1) (exec .reti s) := by
  refine failsAsTheAccess_readWord ⟨fun e he => ?_, fun y hy => ?_⟩
  · show execReti s = _
    rw [execReti, trapReturn_raised_second h1 he, complete_raised, otherAgents_pc, memReadWord_done_pc h1]
  · show execReti s = _
    rw [execReti, trapReturn_refused_second h1 hy, complete_refused]

/-- Settles O32: each of the instructions is `complete` of its access, before which it changes nothing. -/
theorem operandFaultIsTakenPrecisely : Obligations.OperandFaultIsTakenPrecisely := by
  refine ⟨fun rd o s s1 e ho => ⟨?ld, fun op hrd => exec_arith_raised ho op hrd, fun op hrd => ?shift⟩,
    fun rd o s x ho => ⟨?ldRefused, fun op hrd => exec_arith_refused ho op hrd, fun op hrd => ?shiftRefused⟩,
    execSt_fails, fun _ _ hsp husp => execPush_fails hsp husp, fun tg s => ?call,
    fun _ _ hsp husp => execPop_fails hsp husp, fun s => ?ret, execReti_fails_first,
    fun _ _ _ h1 => execReti_fails_second h1, fun e _ _ s => ⟨rfl, recordDetails_records e s⟩⟩
  case ld => rw [exec_ld, execLd, ho, complete_raised, readOperand_raised_state ho]
  case shift => rw [exec_shift, execBinary_raised hrd ho, readOperand_raised_state ho]
  case ldRefused => rw [exec_ld, execLd, ho, complete_refused]
  case shiftRefused => rw [exec_shift, execBinary_refused ho _ hrd]
  case call =>
    rw [exec_call]
    exact failsAsTheAccess_writeWord (followsFailure_push (followsFailure_complete _ _ _ _))
  case ret => exact failsAsTheAccess_readWord (followsFailure_pop (followsFailure_complete _ _ _ _))

end Sys2Proof.Machine
end

section
/-! PROOFS of the statements of 45_io.md: IN and OUT. -/

namespace Sys2Proof.Machine

/-! ## The privilege check passed -/

theorem ioBlocked_false {s : State} (h : s.flag.p = true ∨ s.flag.i = true) : ioBlocked s = false := by
  rcases h with h | h <;> simp [ioBlocked, h]

theorem execIn_unblocked {s : State} (h : s.flag.p = true ∨ s.flag.i = true) (rd : Reg) (p : Port) :
    execIn rd p s = complete (ioRead (portAddress p s) s) s.pc (s.pc + portSize p) fun v s1 =>
      .next ((s1.writeReg rd v).setPc (s.pc + portSize p)) := by
  rw [execIn, ioBlocked_false h, if_neg Bool.false_ne_true]

theorem execOut_unblocked {s : State} (h : s.flag.p = true ∨ s.flag.i = true) (rd : Reg) (p : Port) :
    execOut rd p s = complete (ioWrite (portAddress p s) (s.readReg rd) s) s.pc (s.pc + portSize p) fun _ s1 =>
      .next (s1.setPc (s.pc + portSize p)) := by
  rw [execOut, ioBlocked_false h, if_neg Bool.false_ne_true]

/-! ## IN (R195) -/

theorem physByte_of_same {s t : State} (hmem : t.mem = s.mem) (hipl : t.iplDetached = s.iplDetached) :
    SameMemory s t := by
  intro a
  unfold State.physByte State.romShown
  rw [hmem, hipl]

/-- Settles O43: IN is `portRead` in the state with the trace entry, then a register write. -/
theorem inReadsThePort : Obligations.InReadsThePort := by
  intro rd p s hpriv hok a
  obtain ⟨v, s1, hread, hframe⟩ := portRead_done a (s.appendTrace (.input a))
  have hflag : s1.flag = s.flag := hframe.flag
  have hregs (r : PhysReg) : s1.readPhys r = s.readPhys r := by rw [hframe.readPhys, appendTrace_readPhys]
  refine ⟨v, s1, (s1.writeReg rd v).setPc (s.pc + portSize p), hread, ?_, rfl, wroteReg_writeReg hflag hregs _, ?_⟩
  · rw [exec_input, execIn_unblocked hpriv, ioRead_ok hok, hread, complete_done]
  simp only [setPc_trace, setPc_tlb, setPc_iplDetached, setPc_mmuEnabled, setPc_halted, setPc_pending,
    setPc_violationAddress, setPc_violationCause, setPc_faultPage, setPc_violationAddressFresh,
    setPc_violationCauseFresh, setPc_faultPageFresh, setPc_dev, writeReg_trace, writeReg_tlb, writeReg_iplDetached,
    writeReg_mmuEnabled, writeReg_halted, writeReg_pending, writeReg_violationAddress, writeReg_violationCause,
    writeReg_faultPage, writeReg_violationAddressFresh, writeReg_violationCauseFresh, writeReg_faultPageFresh,
    writeReg_dev]
  refine ⟨hframe.trace, physByte_of_same ?_ ?_, hframe.tlb, hframe.iplDetached, hframe.mmuEnabled, hframe.halted,
    hframe.pending, hframe.violationAddress, hframe.violationCause, hframe.faultPage, hframe.addressFresh,
    hframe.causeFresh, hframe.pageFresh, hframe.dev⟩
  · rw [setPc_mem, writeReg_mem]; exact hframe.mem
  · rw [setPc_iplDetached, writeReg_iplDetached]; exact hframe.iplDetached

/-! ## The ports of the TLB (R66, R67) -/

section
variable {a : Word} {k : Fin 8}

theorem isTlbPort_of_entry (h : a.toNat = 0x80 + 4 * k.val ∨ a.toNat = 0x82 + 4 * k.val) : isTlbPort a = true := by
  rw [isTlbPort_iff]; omega

theorem tlbPortIndex_of_entry (h : a.toNat = 0x80 + 4 * k.val ∨ a.toNat = 0x82 + 4 * k.val) : tlbPortIndex a = k := by
  apply Fin.ext
  show (a.extractLsb' 2 3).toNat = k.val
  rw [BitVec.extractLsb'_toNat, Nat.shiftRight_eq_div_pow]
  omega

theorem tlbPortIsLow_eq (a : Word) : tlbPortIsLow a = decide (a.toNat / 2 % 2 = 1) := by
  rw [tlbPortIsLow, BitVec.getLsbD, Nat.testBit_eq_decide_div_mod_eq]

theorem tlbPortIsLow_of_high (h : a.toNat = 0x80 + 4 * k.val) : tlbPortIsLow a = false := by
  rw [tlbPortIsLow_eq, decide_eq_false_iff_not]; omega

theorem tlbPortIsLow_of_low (h : a.toNat = 0x82 + 4 * k.val) : tlbPortIsLow a = true := by
  rw [tlbPortIsLow_eq, decide_eq_true_iff]; omega

theorem tlbAfterOut_high (h : a.toNat = 0x80 + 4 * k.val) (v : Word) (t : Vector (BitVec 24) 8) :
    tlbAfterOut a v t = tlbSet t k (loByte v ++ (tlbGet t k).extractLsb' 0 16 : BitVec (8 + 16)) := by
  simp only [tlbAfterOut, tlbPortIndex_of_entry (.inl h), tlbPortIsLow_of_high h, Bool.false_eq_true, if_false]

theorem tlbAfterOut_low (h : a.toNat = 0x82 + 4 * k.val) (v : Word) (t : Vector (BitVec 24) 8) :
    tlbAfterOut a v t = tlbSet t k (tlbPage (tlbGet t k) ++ (v &&& 0x9FFF) : BitVec (8 + 16)) := by
  simp only [tlbAfterOut, tlbPortIndex_of_entry (.inr h), tlbPortIsLow_of_low h, if_true]

end

/-- Settles O46: the new entry is put together from the written half and the old other half. -/
theorem outToTlbPortWritesHalfAnEntry : Obligations.OutToTlbPortWritesHalfAnEntry := by
  intro a v t k
  refine ⟨fun h => ?high, fun h => ?low, fun h j hj => ?others⟩
  case high =>
    rw [tlbAfterOut_high h, tlbGet_tlbSet, if_pos rfl]
    exact ⟨tlbPage_append _ _, tlbLow_append _ _⟩
  case low =>
    rw [tlbAfterOut_low h, tlbGet_tlbSet, if_pos rfl]
    exact ⟨tlbLow_append _ _, tlbPage_append _ _⟩
  case others =>
    rcases h with h | h
    · rw [tlbAfterOut_high h, tlbGet_tlbSet, if_neg hj]
    · rw [tlbAfterOut_low h, tlbGet_tlbSet, if_neg hj]

/-! ## Illegal accesses (R196, R197) -/

/-- Settles O47: the address is looked at first, then the port. -/
theorem illegalPortAccessIsRefused : Obligations.IllegalPortAccessIsRefused := by
  intro rd p s hpriv a
  have hin (x : Refusal) (h : ioRead a s = .refused x) : exec (Instr.ofForm (.input rd p)) s = .refused x := by
    rw [exec_input, execIn_unblocked hpriv, h, complete_refused]
  have hout (x : Refusal) (h : ioWrite a (s.readReg rd) s = .refused x) :
      exec (Instr.ofForm (.output rd p)) s = .refused x := by
    rw [exec_output, execOut_unblocked hpriv, h, complete_refused]
  refine ⟨fun hrange => ⟨hin _ (if_pos hrange), hout _ (if_pos hrange)⟩, fun hrange hodd => ?odd, fun ha hv => ?ipl,
    fun ha => ?inputPort⟩
  case odd =>
    have hrange' : ¬0xFF < a.toNat := by omega
    exact ⟨hin _ (by rw [ioRead, if_neg hrange', if_pos hodd]), hout _ (by rw [ioWrite, if_neg hrange', if_pos hodd])⟩
  case ipl =>
    refine hout _ ?_
    rw [ha, ioWrite_ok (by decide)]
    show (if (s.readReg rd).getLsbD 0 then _ else _) = _
    rw [hv, if_neg Bool.false_ne_true]
  case inputPort =>
    refine hout _ ?_
    rcases ha with ha | ha <;> rw [ha, ioWrite_ok (by decide)] <;> rfl

/-! ## What the ports read (R196, R259 to R269) -/

/-- Below 80h every port is a device's. -/
theorem portRead_below_mmu {a : Word} (s : State) (h : a.toNat < 0x80) : portRead a s = devicePortRead a s := by
  have hne (k : Word) (hk : 0x80 ≤ k.toNat) : a ≠ k := fun e => by rw [e] at h; omega
  refine portRead_device s ?_ (hne _ (by decide)) (hne _ (by decide)) (hne _ (by decide))
  rw [← Bool.not_eq_true, isTlbPort_iff]
  omega

theorem devicePortRead_value {a v : Word} {s s1 : State} (h : devicePortRead a s = .done v s1) :
    v = Config.ioOracle s.trace s.draws a &&& portReadMask a := by
  cases h; rfl

/-- A bit that one of three masks clears reads 0. -/
theorem masked_and_eq_zero (x : Word) {p q r n : Word} (h : p &&& n = 0 ∨ q &&& n = 0 ∨ r &&& n = 0) :
    x &&& (p &&& q &&& r) &&& n = 0 := by
  rcases h with h | h | h
  · rw [show x &&& (p &&& q &&& r) &&& n = x &&& q &&& r &&& (p &&& n) by ac_rfl, h]; exact BitVec.and_zero
  · rw [show x &&& (p &&& q &&& r) &&& n = x &&& p &&& r &&& (q &&& n) by ac_rfl, h]; exact BitVec.and_zero
  · rw [show x &&& (p &&& q &&& r) &&& n = x &&& p &&& q &&& (r &&& n) by ac_rfl, h]; exact BitVec.and_zero

/-- Every unnamed row lies in 18h to 7Eh. -/
theorem lostRow_range : ∀ k : Fin 46, 0x18 ≤ (lostRow k).toNat ∧ (lostRow k).toNat ≤ 0x7E := by decide

theorem statRow_range (a : Word) (h : a = ft232rlCtrlRow ∨ a = tecCtrlRow ∨ a = rn4020CtrlRow) :
    0x08 ≤ a.toNat ∧ a.toNat ≤ 0x7E := by
  rcases h with rfl | rfl | rfl
  · unfold ft232rlCtrlRow; split_ifs <;> decide
  · unfold tecCtrlRow; split_ifs <;> decide
  · have := lostRow_range (Config.rn4020CtrlRow.castLE (by decide))
    unfold rn4020CtrlRow lostSerialRow
    omega

theorem isStatRow_iff (a : Word) : isStatRow a = true ↔ a = ft232rlCtrlRow ∨ a = tecCtrlRow ∨ a = rn4020CtrlRow := by
  simp [isStatRow, or_assoc]

/-- The timers' ports are no serial unit's and not 出力ポートHi's, so nothing is masked (R263). -/
theorem portReadMask_timer {a : Word} (h : a = 0x00 ∨ a = 0x02 ∨ a = 0x04 ∨ a = 0x06) : portReadMask a = 0xFFFF := by
  have hlow : a.toNat < 0x08 := by rcases h with rfl | rfl | rfl | rfl <;> decide
  have hstat : isStatRow a = false := by
    rw [← Bool.not_eq_true, isStatRow_iff]
    intro hs
    have := statRow_range a hs
    omega
  have hhi : a ≠ portHiRow := fun e => by
    have := lostRow_range Config.portHiRow
    rw [e, portHiRow] at hlow
    omega
  have hrow : rowReadMask a.toNat = 0xFFFF := by rcases h with rfl | rfl | rfl | rfl <;> rfl
  rw [portReadMask, hstat, if_neg Bool.false_ne_true, if_neg hhi, hrow]
  rfl

/-- A "00H" row presents a byte. -/
theorem rowReadMask_high {a : Nat} (h : 0x08 ≤ a ∧ a ≤ 0x0E ∨ 0x18 ≤ a ∧ a ≤ 0x2E ∨ 0x30 ≤ a ∧ a ≤ 0x38) :
    rowReadMask a &&& 0xFF00 = 0 := by
  unfold rowReadMask
  split_ifs <;> rfl

theorem hiByte_of_and {v : Word} (h : v &&& 0xFF00 = 0) : hiByte v = 0 := by
  apply BitVec.eq_of_getLsbD_eq
  intro i hi
  have hbit := congrArg (BitVec.getLsbD · (8 + i)) h
  rw [hiByte, BitVec.getLsbD_extractLsb']
  interval_cases i <;> simpa using hbit

/-- The low half of an entry comes back but for bits 14 and 13, which are drawn (R66, R67). -/
theorem tlbLow_read {low : Word} (h13 : low.getLsbD 13 = false) (h14 : low.getLsbD 14 = false) (d : BitVec 2) :
    ((low &&& 0x9FFF) ||| (d.setWidth 16 <<< 13)) &&& 0x9FFF = low := by
  apply BitVec.eq_of_getLsbD_eq
  intro i hi
  rw [BitVec.getLsbD_eq_getElem (by decide)] at h13 h14
  interval_cases i <;> simp [h13, h14]

theorem portRead_tlbHigh {a : Word} {k : Fin 8} (h : a.toNat = 0x80 + 4 * k.val) (s : State) :
    portRead a s = .done ((tlbPage (tlbGet s.tlb k)).setWidth 16) s := by
  simp only [portRead, isTlbPort_of_entry (.inl h), tlbPortRead, tlbPortIsLow_of_high h, tlbPortIndex_of_entry (.inl h),
    if_true, Bool.false_eq_true, if_false]

theorem portRead_tlbLow {a : Word} {k : Fin 8} (h : a.toNat = 0x82 + 4 * k.val) (s : State) :
    portRead a s = .done (((tlbGet s.tlb k).extractLsb' 0 16 &&& 0x9FFF) ||| ((Config.draw 2 s.draws).setWidth 16 <<< 13))
      (s.advanceDraws 1) := by
  simp only [portRead, isTlbPort_of_entry (.inr h), tlbPortRead, tlbPortIsLow_of_low h, tlbPortIndex_of_entry (.inr h),
    if_true]

/-- Settles O44: the TLB's ports, the violation registers, and what the masks of the device ports leave. -/
theorem portValues : Obligations.PortValues := by
  intro s v s1
  have hdevice {a : Word} (hport : portRead a s = devicePortRead a s) (h : portRead a s = .done v s1) :
      v = Config.ioOracle s.trace s.draws a &&& portReadMask a := devicePortRead_value (hport.symm.trans h)
  have hmasked {a n : Word} (hport : portRead a s = devicePortRead a s) (hn : rowReadMask a.toNat &&& n = 0)
      (h : portRead a s = .done v s1) : v &&& n = 0 := by
    rw [hdevice hport h, portReadMask]; exact masked_and_eq_zero _ (.inl hn)
  have hbelow {a : Word} (ha : a.toNat < 0x80) : portRead a s = devicePortRead a s := portRead_below_mmu s ha
  have hzero (h : v &&& 0xFFFF = 0) : v = 0 := by
    rw [← h]; exact (BitVec.and_allOnes (x := v)).symm
  refine ⟨fun k a ha h => ?high, fun k a ha h hclear => ?low, fun h hfresh => ?address, fun h hfresh => ?cause,
    fun h hfresh => ?page, fun a htlb h2 h4 h6 h => ?other, fun a ha h => ?timer,
    hmasked (hbelow (by decide)) (by decide), hmasked (hbelow (by decide)) (by decide),
    hmasked (hbelow (by decide)) (by decide), fun h => hzero (hmasked (hbelow (by decide)) (by decide) h),
    fun h => hzero (hmasked (hbelow (by decide)) (by decide) h), hmasked rfl (by decide), hmasked rfl (by decide),
    fun a ha h => ?byteRow, fun a ha h => ?stat, fun h => ?portHi⟩
  case high =>
    rw [portRead_tlbHigh ha] at h
    cases h
    rw [BitVec.toNat_setWidth, Nat.mod_eq_of_lt]
    have := (tlbPage (tlbGet s.tlb k)).isLt
    omega
  case low =>
    rw [portRead_tlbLow ha] at h
    cases h
    obtain ⟨h13, h14⟩ := (tlbReserved_iff _).mp (hclear k)
    exact tlbLow_read (by simpa using h13) (by simpa using h14) _
  case address =>
    cases h
    exact ⟨if_pos hfresh, rfl⟩
  case cause =>
    cases h
    rw [if_pos hfresh]
    exact ⟨BitVec.extractLsb'_append_eq_right .., rfl⟩
  case page =>
    cases h
    rw [if_pos hfresh]
    exact ⟨BitVec.extractLsb'_append_eq_right .., rfl⟩
  case other =>
    refine hdevice (portRead_device s ?_ h2 h4 h6) h
    rwa [← Bool.not_eq_true, isTlbPort_iff]
  case timer =>
    have hlow : a.toNat < 0x80 := by rcases ha with rfl | rfl | rfl | rfl <;> decide
    rw [hdevice (hbelow hlow) h, portReadMask_timer ha]
    exact BitVec.and_allOnes
  case byteRow => exact hiByte_of_and (hmasked (hbelow (by omega)) (rowReadMask_high ha) h)
  case stat =>
    have hrange := statRow_range a ha
    rw [hdevice (hbelow (by omega)) h, portReadMask, (isStatRow_iff a).mpr ha, if_pos rfl]
    exact masked_and_eq_zero _ (.inr (.inl rfl))
  case portHi =>
    have hrange := lostRow_range Config.portHiRow
    rw [hdevice (hbelow (by rw [portHiRow]; omega)) h, portReadMask, if_pos (c := portHiRow = portHiRow) rfl]
    exact masked_and_eq_zero _ (.inr (.inr rfl))

/-! ## OUT (R197, R199, R262 to R269) -/

/-- The rows that have a device register of their own (R262 to R269). -/
def namedRows : List Word :=
  [0x00, 0x02, 0x04, 0x06, 0x08, 0x0A, 0x0C, 0x0E, 0x10, 0x12, 0x14, 0x16, 0x1E, 0x2C, 0x32, 0x34, 0x36, 0xF8]

theorem devicesAfterOut_unnamed {a : Word} (h : a ∉ namedRows) (v : Word) (d : Devices) :
    devicesAfterOut a v d = if isLostRow a.toNat then lostRowAfterOut a v d else d := by
  simp only [namedRows, List.mem_cons, List.not_mem_nil, or_false, not_or] at h
  simp only [devicesAfterOut, h, or_self, if_false]

/-- An unnamed row. -/
theorem devicesAfterOut_lost {a : Word}
    (h : 0x18 ≤ a.toNat ∧ a.toNat ≤ 0x2E ∧ a ≠ 0x1E ∧ a ≠ 0x2C ∨ 0x38 ≤ a.toNat ∧ a.toNat ≤ 0x7E) (v : Word)
    (d : Devices) : devicesAfterOut a v d = lostRowAfterOut a v d := by
  have hne (k : Word) : a ≠ k ↔ a.toNat ≠ k.toNat := BitVec.toNat_inj.symm.not
  have hlost : isLostRow a.toNat = true := decide_eq_true (by rwa [hne, hne] at h)
  have hnamed : a ∉ namedRows := fun hmem => by
    have hrows : namedRows.all (fun k => !isLostRow k.toNat) = true := by decide
    have ha := List.all_eq_true.mp hrows a hmem
    rw [hlost] at ha; cases ha
  rw [devicesAfterOut_unnamed hnamed, hlost, if_pos rfl]

/-- The ports of the MMU, and the rows without a register that an OUT writes. -/
theorem devicesAfterOut_none {a : Word} (h : a = 0x30 ∨ 0x80 ≤ a.toNat ∧ a.toNat < 0xF8 ∨ 0xFA ≤ a.toNat) (v : Word)
    (d : Devices) : devicesAfterOut a v d = d := by
  have hnamed : a ∉ namedRows := fun hmem => by
    have hrows : namedRows.all (fun k => decide ¬(k = 0x30 ∨ 0x80 ≤ k.toNat ∧ k.toNat < 0xF8 ∨ 0xFA ≤ k.toNat)) = true := by
      decide
    exact of_decide_eq_true (List.all_eq_true.mp hrows a hmem) h
  have hlost : isLostRow a.toNat = false := by
    rw [← BitVec.toNat_inj, show (0x30 : Word).toNat = 0x30 from rfl] at h
    rw [isLostRow, decide_eq_false_iff_not]
    omega
  rw [devicesAfterOut_unnamed hnamed, hlost, if_neg Bool.false_ne_true]

/-- A serial unit's row holds Ctrl or the data (R264). -/
theorem serialAfterOut_eq (a ctrlRow v : Word) (u : Serial) : serialAfterOut (a == ctrlRow) v u =
    if a = ctrlRow then { u with ctrl := loByte v &&& 0xC0 } else { u with data := loByte v } := by
  by_cases h : a = ctrlRow <;> simp [serialAfterOut, h]

theorem sdCtrlAfterOut_eq (v : Word) (d : Devices) : sdCtrlAfterOut v d = { d with
    sdCtrl := loByte v &&& 0x87
    sdBuffers := if v.getLsbD 1 = true ∨ v.getLsbD 0 = true then d.sdMemAddr :: d.sdBuffers else d.sdBuffers } := by
  simp only [sdCtrlAfterOut, Bool.or_eq_true]

theorem sdMemAddrAfterOut_eq (v : Word) (d : Devices) : sdMemAddrAfterOut v d = { d with
    sdMemAddr := v, sdBuffers := if d.sdBuffers = [] then [] else v :: d.sdBuffers } := by
  simp only [sdMemAddrAfterOut, List.isEmpty_iff]

/-- What writing a port leaves: the IPL and MMU control, the TLB and the devices are those of the port, and nothing else
changes. -/
def portWritten (a v : Word) (s : State) : State :=
  (((s.setIplDetached (if a = 0xA0 then true else s.iplDetached)).setMmuEnabled
    (if a = 0xA2 then v.getLsbD 0 else s.mmuEnabled)).setTlb
    (if 0x80 ≤ a.toNat ∧ a.toNat < 0xA0 then tlbAfterOut a v s.tlb else s.tlb)).setDev (devicesAfterOut a v s.dev)

theorem setIplDetached_self (s : State) : s.setIplDetached s.iplDetached = s := rfl
theorem setMmuEnabled_self (s : State) : s.setMmuEnabled s.mmuEnabled = s := rfl
theorem setTlb_self (s : State) : s.setTlb s.tlb = s := rfl
theorem setDev_self (s : State) : s.setDev s.dev = s := rfl

/-- A port that takes the value: every one but A4h, A6h and, with bit 0 = 0, A0h. -/
theorem portWrite_taken {a v : Word} (s : State) (h4 : a ≠ 0xA4) (h6 : a ≠ 0xA6) (h0 : a = 0xA0 → v.getLsbD 0 = true) :
    portWrite a v s = .done () (portWritten a v s) := by
  by_cases htlb : 0x80 ≤ a.toNat ∧ a.toNat < 0xA0
  · have ha0 : a ≠ 0xA0 := by rintro rfl; revert htlb; decide
    have ha2 : a ≠ 0xA2 := by rintro rfl; revert htlb; decide
    rw [portWrite, if_pos ((isTlbPort_iff a).mpr htlb), portWritten, if_neg ha0, if_neg ha2, if_pos htlb,
      devicesAfterOut_none (.inr (.inl (by omega))), setIplDetached_self, setMmuEnabled_self]
    rfl
  have hport : isTlbPort a = false := by rwa [← Bool.not_eq_true, isTlbPort_iff]
  by_cases ha0 : a = 0xA0
  · have ha2 : a ≠ 0xA2 := by rw [ha0]; decide
    rw [portWrite, hport, if_neg Bool.false_ne_true, if_pos ha0, h0 ha0, if_pos rfl, portWritten, if_pos ha0, if_neg ha2,
      if_neg htlb, devicesAfterOut_none (.inr (.inl (by rw [ha0]; decide)))]
    rfl
  by_cases ha2 : a = 0xA2
  · rw [portWrite, hport, if_neg Bool.false_ne_true, if_neg ha0, if_pos ha2, portWritten, if_neg ha0, if_pos ha2,
      if_neg htlb, devicesAfterOut_none (.inr (.inl (by rw [ha2]; decide))), setIplDetached_self]
    rfl
  · have ha46 : ¬(a = 0xA4 ∨ a = 0xA6) := by rintro (h | h) <;> contradiction
    rw [portWrite, hport, if_neg Bool.false_ne_true, if_neg ha0, if_neg ha2, if_neg ha46, portWritten, if_neg ha0,
      if_neg ha2, if_neg htlb, setIplDetached_self, setMmuEnabled_self, setTlb_self]

section PortWrittenFields

variable (a v : Word) (s : State)

@[simp] theorem portWritten_iplDetached :
    (portWritten a v s).iplDetached = if a = 0xA0 then true else s.iplDetached := by simp [portWritten]
@[simp] theorem portWritten_mmuEnabled :
    (portWritten a v s).mmuEnabled = if a = 0xA2 then v.getLsbD 0 else s.mmuEnabled := by simp [portWritten]
@[simp] theorem portWritten_tlb : (portWritten a v s).tlb =
    if 0x80 ≤ a.toNat ∧ a.toNat < 0xA0 then tlbAfterOut a v s.tlb else s.tlb := by simp [portWritten]
@[simp] theorem portWritten_dev : (portWritten a v s).dev = devicesAfterOut a v s.dev := by simp [portWritten]
@[simp] theorem portWritten_trace : (portWritten a v s).trace = s.trace := by simp [portWritten]
@[simp] theorem portWritten_readPhys (r : PhysReg) : (portWritten a v s).readPhys r = s.readPhys r := by
  simp [portWritten]
@[simp] theorem portWritten_flag : (portWritten a v s).flag = s.flag := by simp [portWritten]
@[simp] theorem portWritten_mem : (portWritten a v s).mem = s.mem := by simp [portWritten]
@[simp] theorem portWritten_halted : (portWritten a v s).halted = s.halted := by simp [portWritten]
@[simp] theorem portWritten_pending : (portWritten a v s).pending = s.pending := by simp [portWritten]
@[simp] theorem portWritten_violationAddress : (portWritten a v s).violationAddress = s.violationAddress := by
  simp [portWritten]
@[simp] theorem portWritten_violationAddressFresh :
    (portWritten a v s).violationAddressFresh = s.violationAddressFresh := by simp [portWritten]
@[simp] theorem portWritten_violationCause : (portWritten a v s).violationCause = s.violationCause := by
  simp [portWritten]
@[simp] theorem portWritten_violationCauseFresh :
    (portWritten a v s).violationCauseFresh = s.violationCauseFresh := by simp [portWritten]
@[simp] theorem portWritten_faultPage : (portWritten a v s).faultPage = s.faultPage := by simp [portWritten]
@[simp] theorem portWritten_faultPageFresh : (portWritten a v s).faultPageFresh = s.faultPageFresh := by
  simp [portWritten]

end PortWrittenFields

/-- Settles O45: OUT is `portWrite` in the state with the trace entry, and `devicesAfterOut` row by row. -/
theorem outWritesThePort : Obligations.OutWritesThePort := by
  intro rd p s hpriv hok h4 h6 h0 a v d
  have hexec : exec (Instr.ofForm (.output rd p)) s =
      .next ((portWritten a v (s.appendTrace (.output a v))).setPc (s.pc + portSize p)) := by
    rw [exec_output, execOut_unblocked hpriv, ioWrite_ok hok, portWrite_taken _ h4 h6 h0, complete_done]
  have hdev {d' : Devices} (h : devicesAfterOut a v d = d') :
      ((portWritten a v (s.appendTrace (.output a v))).setPc (s.pc + portSize p)).dev = d' := by simpa using h
  clear_value a v d
  have hrow {k : Word} {d' : Devices} (hk : devicesAfterOut k v d = d') (h : a = k) :
      ((portWritten a v (s.appendTrace (.output a v))).setPc (s.pc + portSize p)).dev = d' := hdev (by rw [h, hk])
  refine ⟨_, hexec, by simp, by simp, by simp, by simp, by simp, fun r _ => by simp, by simp, by simp, by simp, by simp,
    by simp, by simp, by simp, by simp, by simp, by simp, hrow rfl, hrow rfl, hrow rfl, hrow rfl, fun h => hdev ?ft232rl,
    fun h => hdev ?tec, hrow (sdCtrlAfterOut_eq v d), hrow (sdMemAddrAfterOut_eq v d), hrow rfl, hrow rfl, hrow rfl,
    hrow rfl, hrow rfl, hrow rfl, hrow rfl, hrow rfl, fun h => hdev (devicesAfterOut_lost h v d),
    fun h => hdev (devicesAfterOut_none h v d)⟩
  case ft232rl =>
    rw [← serialAfterOut_eq]
    rcases h with h | h <;> rw [h] <;> rfl
  case tec =>
    rw [← serialAfterOut_eq]
    rcases h with h | h <;> rw [h] <;> rfl

end Sys2Proof.Machine
end
